-- ==== Sys2Proof/Word.lean ====
section
/-! DEFINITION. The word types of the block: bytes, the 16-bit store words and word addresses, and the
40-bit request words (00_scope.md R6, R7; 30_encoding.md R101). All values are unsigned (R7). -/

namespace Sys2Proof

/-- Eight bits: a command character, a status register, a cell of the command buffer. -/
abbrev Byte := BitVec 8

/-- A word of the store, a reading, or a word address: all 16 bits (20_memory.md R61). -/
abbrev Word := BitVec 16

/-- A request word, 40 bits (30_encoding.md R101). -/
abbrev ReqWord := BitVec 40

end Sys2Proof
end

