-- ==== Sys2Proof/Config.lean ====
section
/-! DEFINITION. What is fixed for a run (the parameters of 00_scope.md R6), the environment's vocabulary
(turns, events, bus outcomes) and the free values. A free value is an opaque constant: nothing can be
proved about which value it is. -/

namespace Sys2Proof

namespace Config

/-- `CAP`: capacity of the command buffer in bytes (00_scope.md R6). -/
def bufferCapacity : Nat := 16

/-- `TS_LEN`: timestamp digits, at buffer positions 1 to 14 (R6). -/
def timestampLength : Nat := 14

/-- `T_WINDOW_MS`: the handshake window's length on the hardware; the model has no time (R3, R6). -/
def windowMilliseconds : Nat := 5000

/-- `SENTINEL`, the readiness sentinel `'X'` (R6; 30_encoding.md R111; 90_conflicts.md C1). -/
def sentinel : Byte := 0x58#8

end Config

/-- `TICK_ORDER` (R6): whether a tick cycle samples before or after its handshake window. -/
inductive TickOrder where
  | sampleFirst
  | exchangeFirst
  deriving DecidableEq, Repr, Inhabited

/-- `OVF_DISCARD_SCOPE` (R6): which overflow indication makes dispatch discard a window. -/
inductive OverflowScope where
  | window
  | sticky
  deriving DecidableEq, Repr, Inhabited

/-- `BUS_WORD_ORDER` (R6; 20_memory.md R63): a property of the device's frames; no rule reads it. -/
inductive BusWordOrder where
  | msbFirst
  | lsbFirst
  deriving DecidableEq, Repr, Inhabited

/-- `BUSOP_*` (R6; 30_encoding.md R118): the opcode bytes of the device's commands. No rule of the
block depends on them; frames are abstract (R119). -/
structure BusOps where
  read : Byte
  write : Byte
  rdsr1 : Byte
  rdsr2 : Byte
  wrsr1 : Byte
  udpd : Byte
  dpd : Byte
  otpRead : Byte
  readId : Byte
  deriving DecidableEq, Repr, Inhabited

/-- The parameters of 00_scope.md R6 that the source leaves OPEN: arguments of the model, fixed for a
run (10_state.md R43). `T_SETTLE` and `T_TICK` are not modelled (R6). -/
structure Params where
  /-- `NVM_WORDS`, 1 to 65536 -/
  nvmWords : Nat
  /-- `CURSOR_INIT`, below `NVM_WORDS` -/
  cursorInit : Word
  /-- `SR_BUSY_BIT`, 0 to 7 -/
  srBusyBit : Nat
  /-- `SR_WEL_BIT`, 0 to 7, not `SR_BUSY_BIT` -/
  srWelBit : Nat
  /-- `SR1_PROT_MASK` -/
  sr1ProtMask : Byte
  /-- `SR2_PROT_MASK` -/
  sr2ProtMask : Byte
  /-- `ID_LEN`, at least 1 -/
  idLen : Nat
  /-- `EXPECTED_ID`, `ID_LEN` bytes -/
  expectedId : List Byte
  /-- `DEVICE_ID`, `ID_LEN` bytes -/
  deviceId : List Byte
  /-- `OTP_LEN`, at least 1 -/
  otpLen : Nat
  /-- `OTP_CONTENT`, `OTP_LEN` bytes -/
  otpContent : List Byte
  /-- `BUSY_POLL_LIMIT`, at least 1 -/
  busyPollLimit : Nat
  tickOrder : TickOrder
  ovfDiscardScope : OverflowScope
  busOps : BusOps
  busWordOrder : BusWordOrder
  deriving DecidableEq, Repr

/-- The ranges 00_scope.md R6 gives the parameters. -/
def Params.wf (p : Params) : Bool :=
  decide (1 ≤ p.nvmWords) && decide (p.nvmWords ≤ 65536) && decide (p.cursorInit.toNat < p.nvmWords) &&
  decide (p.srBusyBit < 8) && decide (p.srWelBit < 8) && decide (p.srWelBit ≠ p.srBusyBit) &&
  decide (1 ≤ p.idLen) && decide (p.expectedId.length = p.idLen) && decide (p.deviceId.length = p.idLen) &&
  decide (1 ≤ p.otpLen) && decide (p.otpContent.length = p.otpLen) && decide (1 ≤ p.busyPollLimit)

/-- The "vector binding" column of 00_scope.md R6: the spec's choice for its test vectors, not a claim
about the hardware (log 1). The command opcodes, symbolic there, stand as 0. -/
def Params.vectorBinding : Params where
  nvmWords := 65536
  cursorInit := 0
  srBusyBit := 0
  srWelBit := 1
  sr1ProtMask := 0x0C
  sr2ProtMask := 0x00
  idLen := 2
  expectedId := [0xA5, 0x5A]
  deviceId := [0xA5, 0x5A]
  otpLen := 4
  otpContent := [0x01, 0x02, 0x03, 0x04]
  busyPollLimit := 3
  tickOrder := .sampleFirst
  ovfDiscardScope := .window
  busOps := ⟨0, 0, 0, 0, 0, 0, 0, 0, 0⟩
  busWordOrder := .msbFirst

/-- The outcome of a bus transaction (20_memory.md R64, R70). -/
inductive BusOutcome where
  | ok
  | err
  deriving DecidableEq, Repr, Inhabited

/-- The events of the four environment sources (60_exceptions.md R245). -/
inductive Event where
  /-- one byte from the serial transport (41_protocol_engine.md R182) -/
  | rx (c : Byte)
  /-- the tick source (42_session_controller.md R216) -/
  | tick
  /-- the window timer (41_protocol_engine.md R184) -/
  | timeout
  /-- the settle timer (40_store_driver.md R151) -/
  | settled
  deriving DecidableEq, Repr, Inhabited

/-- Who moves next: the control agent, or the environment by one event (60_exceptions.md R248). -/
inductive Turn where
  | agent
  | event (e : Event)
  deriving DecidableEq, Repr, Inhabited

namespace Config

/-- FREE VALUE (log 3): the outcome of a bus transaction, 20_memory.md R70. -/
opaque freeOutcome : Nat → BusOutcome

/-- FREE VALUE (log 3): a byte the device replies, 20_memory.md R68, R69. -/
opaque freeByte : Nat → Byte

/-- FREE VALUE (log 3): a word the device or the sensor replies, 20_memory.md R66, R67. -/
opaque freeWord : Nat → Word

/-- FREE VALUE (log 3): whether the sensor reports success, 00_scope.md R9. -/
opaque freeFlag : Nat → Bool

/-- FREE VALUE (log 4): which agent moves next, 60_exceptions.md R248. -/
opaque freeTurn : Nat → Turn

end Config

end Sys2Proof
end

