-- ==== Sys2Proof/Syntax.lean ====
section
/-! DEFINITION. The syntax: one constructor per row of opcode_table.json, 26 requests of the request port
(30_encoding.md R103) and 3 host commands (R106). -/

namespace Sys2Proof

/-- The instructions of the block (00_scope.md R2): requests and host commands. -/
inductive Instr where
  /-- SD_INIT, `initialize()` -/
  | sdInit
  /-- SD_TERM, `terminate()` -/
  | sdTerm
  /-- SD_WRITE a, v: `writeWord(addr, value)` -/
  | sdWrite (a v : Word)
  /-- SD_READ a: `readWord(addr)` -/
  | sdRead (a : Word)
  /-- SD_REFRESH, `refreshStatus()` -/
  | sdRefresh
  /-- SD_GETSR1, `getStatusRegister1` -/
  | sdGetSr1
  /-- SD_GETSR2, `getStatusRegister2` -/
  | sdGetSr2
  /-- SD_WRSR1 v: `writeStatusRegister1(value)` -/
  | sdWrSr1 (v : Byte)
  /-- SD_UDPD_ENTER, `enterUltraDeepPowerDown()` -/
  | sdUdpdEnter
  /-- SD_UDPD_EXIT_BEGIN, `beginExitUltraDeepPowerDown()` -/
  | sdUdpdExitBegin
  /-- SD_LOAD_OTP, `loadOTP()` -/
  | sdLoadOtp
  /-- SD_LOG v: `logTemperature(reading)` -/
  | sdLog (v : Word)
  /-- SD_READ_ID, `readMFDID()` -/
  | sdReadId
  /-- SD_PRINT_ID, `printMFDID()` -/
  | sdPrintId
  /-- PE_CLEAR, `clear()` -/
  | peClear
  /-- PE_APPEND c: `append(ch)` -/
  | peAppend (c : Byte)
  /-- PE_EXCHANGE, `exchange()` -/
  | peExchange
  /-- PE_DISPATCH, `dispatch()` -/
  | peDispatch
  /-- PE_DUMP, the bulk dump -/
  | peDump
  /-- SC_BEGIN, the `B` transition -/
  | scBegin
  /-- SC_END, the `E` transition -/
  | scEnd
  /-- SC_SAMPLE, one tick's sample -/
  | scSample
  /-- SC_QUIESCE, the bounded busy poll -/
  | scQuiesce
  /-- SC_TICK_CYCLE, the work of one tick -/
  | scTickCycle
  /-- WAIT_TICK, sleep until the next tick -/
  | waitTick
  /-- WAIT_SETTLE, the caller's settling wait -/
  | waitSettle
  /-- HOST_D: a window's frame `D` and the 15 bytes after it, which dispatch ignores (R108) -/
  | hostD (rest : List Byte)
  /-- HOST_B: a window's frame `B`, its 14 timestamp bytes and the ignored byte 15 (R107, R108) -/
  | hostB (timestamp : List Byte) (filler : Byte)
  /-- HOST_E: a window's frame `E`, its 14 timestamp bytes and the ignored byte 15 (R107, R108) -/
  | hostE (timestamp : List Byte) (filler : Byte)
  deriving DecidableEq, Repr, Inhabited

/-- The pseudo-instructions of the textual notation (30_encoding.md R117). -/
inductive Pseudo where
  | boot
  | wake
  deriving DecidableEq, Repr

/-- The requests a pseudo-instruction expands to (30_encoding.md R117). -/
def Pseudo.expand : Pseudo → List Instr
  | .boot => [.sdInit, .sdUdpdEnter]
  | .wake => [.sdUdpdExitBegin, .waitSettle]

end Sys2Proof
end

