-- ==== Sys2Proof/WellFormed.lean ====
section
/-! DEFINITION. Well-formed instructions: a request's operands always fit their fields (30_encoding.md
R102); a host command holds the 16 cells dispatch reads, so 15 bytes follow a `D`, and 14 timestamp
bytes and one more follow a `B` or an `E` (R105). -/

namespace Sys2Proof

/-- The instruction spells a word or a frame of the encodings (30_encoding.md R102, R105). -/
def Instr.wf : Instr → Bool
  | .sdInit => true
  | .sdTerm => true
  | .sdWrite _ _ => true
  | .sdRead _ => true
  | .sdRefresh => true
  | .sdGetSr1 => true
  | .sdGetSr2 => true
  | .sdWrSr1 _ => true
  | .sdUdpdEnter => true
  | .sdUdpdExitBegin => true
  | .sdLoadOtp => true
  | .sdLog _ => true
  | .sdReadId => true
  | .sdPrintId => true
  | .peClear => true
  | .peAppend _ => true
  | .peExchange => true
  | .peDispatch => true
  | .peDump => true
  | .scBegin => true
  | .scEnd => true
  | .scSample => true
  | .scQuiesce => true
  | .scTickCycle => true
  | .waitTick => true
  | .waitSettle => true
  | .hostD rest => decide (rest.length = Config.bufferCapacity - 1)
  | .hostB ts _ => decide (ts.length = Config.timestampLength)
  | .hostE ts _ => decide (ts.length = Config.timestampLength)

end Sys2Proof
end

