-- ==== Sys2Proof/Decode.lean ====
section
/-! DEFINITION. The decoder, total on any word and any bytes, and after it the encoder, both written from
30_encoding.md: request words R101 to R104, host frames R105 to R110. -/

namespace Sys2Proof

/-- Why a word or a frame spells no instruction. -/
inductive DecodeError where
  /-- the OP value is not in the map of 30_encoding.md R103 (R104) -/
  | unassignedOp
  /-- a field the request does not use is not 0 (R104) -/
  | reservedField
  /-- the frame's first byte is not `D`, `B` or `E`; dispatch ignores it (R110) -/
  | unknownCommand
  /-- not the 16 cells of the command buffer (R105) -/
  | frameLength
  deriving DecidableEq, Repr

/-- `OP = REQ[39:32]` (30_encoding.md R101). -/
def reqOp (w : ReqWord) : Byte := w.extractLsb' 32 8

/-- `A = REQ[31:16]` (R101). -/
def reqA (w : ReqWord) : Word := w.extractLsb' 16 16

/-- `V = REQ[15:0]` (R101). -/
def reqV (w : ReqWord) : Word := w.extractLsb' 0 16

/-- `V[15:8]`, which must be 0 for the requests with an 8-bit operand (R102). -/
def highByte (v : Word) : Byte := v.extractLsb' 8 8

/-- `V[7:0]` (R102). -/
def lowByte (v : Word) : Byte := v.extractLsb' 0 8

/-- A request of format R: A and V must be 0 (R103). -/
def decodeR (i : Instr) (a v : Word) : Except DecodeError Instr :=
  if a = 0 ∧ v = 0 then .ok i else .error .reservedField

/-- A request of format RA: V must be 0 (R103). -/
def decodeRA (f : Word → Instr) (a v : Word) : Except DecodeError Instr :=
  if v = 0 then .ok (f a) else .error .reservedField

/-- A request of format RV16: A must be 0 (R103). -/
def decodeRV16 (f : Word → Instr) (a v : Word) : Except DecodeError Instr :=
  if a = 0 then .ok (f v) else .error .reservedField

/-- A request of format RV8: A and V[15:8] must be 0 (R103). -/
def decodeRV8 (f : Byte → Instr) (a v : Word) : Except DecodeError Instr :=
  if a = 0 ∧ highByte v = 0 then .ok (f (lowByte v)) else .error .reservedField

/-- The request opcode map, 30_encoding.md R103. -/
def decodeFields (op : Byte) (a v : Word) : Except DecodeError Instr :=
  match op with
  | 0x01#8 => decodeR .sdInit a v
  | 0x02#8 => decodeR .sdTerm a v
  | 0x03#8 => .ok (.sdWrite a v)
  | 0x04#8 => decodeRA .sdRead a v
  | 0x05#8 => decodeR .sdRefresh a v
  | 0x06#8 => decodeR .sdGetSr1 a v
  | 0x07#8 => decodeR .sdGetSr2 a v
  | 0x08#8 => decodeRV8 .sdWrSr1 a v
  | 0x09#8 => decodeR .sdUdpdEnter a v
  | 0x0A#8 => decodeR .sdUdpdExitBegin a v
  | 0x0B#8 => decodeR .sdLoadOtp a v
  | 0x0C#8 => decodeRV16 .sdLog a v
  | 0x0D#8 => decodeR .sdReadId a v
  | 0x0E#8 => decodeR .sdPrintId a v
  | 0x20#8 => decodeR .peClear a v
  | 0x21#8 => decodeRV8 .peAppend a v
  | 0x22#8 => decodeR .peExchange a v
  | 0x23#8 => decodeR .peDispatch a v
  | 0x24#8 => decodeR .peDump a v
  | 0x40#8 => decodeR .scBegin a v
  | 0x41#8 => decodeR .scEnd a v
  | 0x42#8 => decodeR .scSample a v
  | 0x43#8 => decodeR .scQuiesce a v
  | 0x44#8 => decodeR .scTickCycle a v
  | 0x60#8 => decodeR .waitTick a v
  | 0x61#8 => decodeR .waitSettle a v
  | _ => .error .unassignedOp

/-- Decode a request word (30_encoding.md R101 to R104). -/
def decodeRequest (w : ReqWord) : Except DecodeError Instr :=
  decodeFields (reqOp w) (reqA w) (reqV w)

/-- Decode the 16 cells of the command buffer as a host command (30_encoding.md R105 to R108, R110):
byte 0 is matched on all 8 bits (R106). -/
def decodeFrame (cells : List Byte) : Except DecodeError Instr :=
  if cells.length = Config.bufferCapacity then
    match cells with
    | [] => .error .frameLength
    | opcode :: rest =>
      if opcode = 0x44#8 then .ok (.hostD rest)
      else if opcode = 0x42#8 then .ok (.hostB (rest.take 14) (rest.getD 14 0))
      else if opcode = 0x45#8 then .ok (.hostE (rest.take 14) (rest.getD 14 0))
      else .error .unknownCommand
  else .error .frameLength

/-- What carries an instruction: a word on the request port, or a window's frame. -/
inductive Code where
  | request (w : ReqWord)
  | frame (cells : List Byte)
  deriving DecidableEq, Repr

/-- The decoder: total on any request word and any bytes. -/
def decode : Code → Except DecodeError Instr
  | .request w => decodeRequest w
  | .frame cells => decodeFrame cells

/-- The request word `OP, A, V` (30_encoding.md R101). -/
def reqWord (op : Byte) (a v : Word) : ReqWord := op ++ a ++ v

/-- An 8-bit operand in V with V[15:8] = 0 (R102). -/
def byteField (b : Byte) : Word := 0#8 ++ b

/-- The encoder, from the same tables: R103 for requests, R105 to R108 for host commands. -/
def encode : Instr → Code
  | .sdInit => .request (reqWord 0x01#8 0 0)
  | .sdTerm => .request (reqWord 0x02#8 0 0)
  | .sdWrite a v => .request (reqWord 0x03#8 a v)
  | .sdRead a => .request (reqWord 0x04#8 a 0)
  | .sdRefresh => .request (reqWord 0x05#8 0 0)
  | .sdGetSr1 => .request (reqWord 0x06#8 0 0)
  | .sdGetSr2 => .request (reqWord 0x07#8 0 0)
  | .sdWrSr1 v => .request (reqWord 0x08#8 0 (byteField v))
  | .sdUdpdEnter => .request (reqWord 0x09#8 0 0)
  | .sdUdpdExitBegin => .request (reqWord 0x0A#8 0 0)
  | .sdLoadOtp => .request (reqWord 0x0B#8 0 0)
  | .sdLog v => .request (reqWord 0x0C#8 0 v)
  | .sdReadId => .request (reqWord 0x0D#8 0 0)
  | .sdPrintId => .request (reqWord 0x0E#8 0 0)
  | .peClear => .request (reqWord 0x20#8 0 0)
  | .peAppend c => .request (reqWord 0x21#8 0 (byteField c))
  | .peExchange => .request (reqWord 0x22#8 0 0)
  | .peDispatch => .request (reqWord 0x23#8 0 0)
  | .peDump => .request (reqWord 0x24#8 0 0)
  | .scBegin => .request (reqWord 0x40#8 0 0)
  | .scEnd => .request (reqWord 0x41#8 0 0)
  | .scSample => .request (reqWord 0x42#8 0 0)
  | .scQuiesce => .request (reqWord 0x43#8 0 0)
  | .scTickCycle => .request (reqWord 0x44#8 0 0)
  | .waitTick => .request (reqWord 0x60#8 0 0)
  | .waitSettle => .request (reqWord 0x61#8 0 0)
  | .hostD rest => .frame (0x44#8 :: rest)
  | .hostB ts filler => .frame (0x42#8 :: (ts ++ [filler]))
  | .hostE ts filler => .frame (0x45#8 :: (ts ++ [filler]))

/-- The word of a request, for writing programs down; a host command has none and stands as 0, which
spells no request. -/
def Instr.requestWord (i : Instr) : ReqWord :=
  match encode i with
  | .request w => w
  | .frame _ => 0

/-- The 16 bytes of a frame whose bits are numbered from byte 0 on: byte k is bits 8k+7 to 8k. -/
def frameBytes (w : Nat) : List Byte :=
  [BitVec.ofNat 8 w, BitVec.ofNat 8 (w >>> 8), BitVec.ofNat 8 (w >>> 16), BitVec.ofNat 8 (w >>> 24),
   BitVec.ofNat 8 (w >>> 32), BitVec.ofNat 8 (w >>> 40), BitVec.ofNat 8 (w >>> 48), BitVec.ofNat 8 (w >>> 56),
   BitVec.ofNat 8 (w >>> 64), BitVec.ofNat 8 (w >>> 72), BitVec.ofNat 8 (w >>> 80), BitVec.ofNat 8 (w >>> 88),
   BitVec.ofNat 8 (w >>> 96), BitVec.ofNat 8 (w >>> 104), BitVec.ofNat 8 (w >>> 112), BitVec.ofNat 8 (w >>> 120)]

/-- Whether `nbits` bits are a request word: a request word has 40 bits and no other length (R101);
anything else is the beginning of a host frame (log 11). -/
def isRequestWidth (nbits : Nat) : Bool := nbits == 40

/-- The instruction the decoder reads from the bits `w` of a row of opcode_table.json: a 40-bit request
word on the request port, or the beginning of a 16-byte host frame with zeros after it. -/
def decodeTableWord (nbits w : Nat) : Option Instr :=
  if isRequestWidth nbits then (decodeRequest (BitVec.ofNat 40 w)).toOption
  else (decodeFrame (frameBytes w)).toOption

end Sys2Proof
end

