-- ==== Sys2Proof/Machine/State.lean ====
section
/-! DEFINITION. The state of the block: every register of 10_state.md, the control state, the model's
bookkeeping (R42), the parameters (R43, log 1) and what the environment will do next (log 3). Plain data
throughout. -/

namespace Sys2Proof.Machine

/-- `SD.PWR` (10_state.md R25). -/
inductive Power where
  | poweredDown
  | waking
  | awake
  | busy
  deriving DecidableEq, Repr, Inhabited

/-- The 2-bit encoding of `SD.PWR` (R25). -/
def Power.code : Power → BitVec 2
  | .poweredDown => 0
  | .waking => 1
  | .awake => 2
  | .busy => 3

/-- `SC.HOLD` (R41). -/
inductive Hold where
  | none
  /-- waits for `SD.PWR ≠ Waking` -/
  | settle
  /-- waits for TIMEOUT -/
  | window
  /-- waits for `SC.TICK_PEND = 1` -/
  | tick
  deriving DecidableEq, Repr, Inhabited

/-- `DF` (R37): its five named bits. Bits 7:5 are reserved and read 0 (log 18). -/
structure DeviceFlags where
  logging : Bool
  memError : Bool
  tempError : Bool
  cmdOverflow : Bool
  cmdError : Bool
  deriving DecidableEq, Repr

/-- Result codes (30_encoding.md R113). -/
inductive ResultCode where
  | ok
  | deviceNotFound
  | writeProtected
  | busBusy
  | notReady
  | busError
  deriving DecidableEq, Repr, Inhabited

/-- What a completed request returned, an entry of `RESTRACE` (R42). -/
inductive Result where
  /-- a result code alone -/
  | code (r : ResultCode)
  /-- SD_READ's code and word -/
  | word (r : ResultCode) (w : Word)
  /-- SD_GETSR1's and SD_GETSR2's code and byte -/
  | byte (r : ResultCode) (b : Byte)
  /-- SD_READ_ID's code and bytes -/
  | bytes (r : ResultCode) (bs : List Byte)
  /-- SD_LOG's result-flag byte -/
  | logFlags (f : Byte)
  deriving DecidableEq, Repr

/-- A device bus command with its arguments (30_encoding.md R118). -/
inductive BusCmd where
  | read (a : Word)
  | write (a v : Word)
  | rdsr1
  | rdsr2
  | wrsr1 (v : Byte)
  | udpd
  | dpd
  | otpRead
  | readId
  deriving DecidableEq, Repr

/-- The device's reply (30_encoding.md R118). -/
inductive Reply where
  | none
  | byte (b : Byte)
  | word (w : Word)
  | bytes (bs : List Byte)
  deriving DecidableEq, Repr

/-- An entry of `BUSTRACE` (R42). -/
inductive BusEvent where
  | txn (cmd : BusCmd) (outcome : BusOutcome) (reply : Reply)
  | wake
  deriving DecidableEq, Repr

/-- An entry of `TXTRACE` (R42; 00_scope.md R9). -/
inductive TxItem where
  | byte (b : Byte)
  | word (w : Word)
  | diag (bs : List Byte)
  deriving DecidableEq, Repr

/-- One write the block made to a word: the value of an Ok write, or the marker of an Err write
(20_memory.md R66). -/
inductive LogEntry where
  | wrote (v : Word)
  | failed
  deriving DecidableEq, Repr

/-- `WRITELOG` (R42): for each word address the writes since reset, oldest first. An unlisted address has
none. The block holds no other memory of the store (20_memory.md R66, R67; log 20). -/
abbrev Memory := List (Nat × List LogEntry)

/-- A request program (R22): request words, and for FW_MAIN the index its last line jumps to
(42_session_controller.md R219). -/
structure Program where
  words : List ReqWord
  loopTo : Option Nat
  deriving DecidableEq, Repr

/-- FW_MAIN (42_session_controller.md R219). -/
def Program.fwMain : Program where
  words := [Instr.sdInit.requestWord, Instr.sdUdpdEnter.requestWord,
    Instr.waitTick.requestWord, Instr.scTickCycle.requestWord]
  loopTo := some 2

/-- The two faults of 60_exceptions.md R242, with their info. A request that raises one records it in
`FAULT` and answers a next state; the control agent's turn in a state that holds one answers that fault.
Safe: no claim of a completed request can follow (log 6). -/
inductive Fault where
  /-- Raised by SD_WRITE and SD_READ (and PE_DUMP through SD_READ): a word address at or above
  `NVM_WORDS`; the info is the address. Answered by `step` alone. Safe. -/
  | addrRange (a : Word)
  /-- Raised by SD_LOG's cursor advance (and SC_SAMPLE and SC_TICK_CYCLE through it): the store is
  exhausted; the info is the cursor. Answered by `step` alone. Safe. -/
  | storeExhausted (cursor : Word)
  deriving DecidableEq, Repr

/-- Why a step has no meaning. -/
inductive Refusal where
  /-- Raised by a refused arm of `exec` only. Safe. -/
  | notModelled (mnemonic : String)
  /-- Raised by `step` alone: `REFUSED` is set, because the program holds a word that spells no request
  (60_exceptions.md R244). Safe. -/
  | badRequest
  deriving DecidableEq, Repr

/-- What the environment will do next (MODEL'S OWN FIELD, log 3): each list is an input, read from its
head. Where a list has run out, the next value is a free value of `Config` at `drawNo`, which then
advances. -/
structure Env where
  /-- who moves next (60_exceptions.md R248) -/
  turns : List Turn
  /-- outcomes of the next bus transactions (20_memory.md R70) -/
  busOutcomes : List BusOutcome
  /-- replies of the next RDSR1 and RDSR2 (20_memory.md R68) -/
  srReplies : List Byte
  /-- replies of the next READs that the contract leaves a draw (20_memory.md R66) -/
  readReplies : List Word
  /-- bytes of the next ID and OTP replies that are draws (20_memory.md R69) -/
  idOtpReplies : List Byte
  /-- the next sensor readings (00_scope.md R9) -/
  sensorReplies : List (Word × Bool)
  /-- how many free values have been taken -/
  drawNo : Nat
  deriving DecidableEq, Repr

/-- Nothing scripted: every draw is a free value. -/
def Env.unscripted : Env := ⟨[], [], [], [], [], [], 0⟩

/-- The state of the block (10_state.md). -/
structure State where
  /-- `SD.DRV_ACTIVE`, R24 -/
  drvActive : Bool
  /-- `SD.PWR`, R25 -/
  pwr : Power
  /-- `SD.SR1C`, R26 -/
  sr1c : Byte
  /-- `SD.SR2C`, R27 -/
  sr2c : Byte
  /-- `SD.SR_VALID`, R28 -/
  srValid : Bool
  /-- `SD.CURSOR`, R29 -/
  cursor : Word
  /-- `SD.OTP_BUF`, R30 -/
  otpBuf : List Byte
  /-- `SD.OTP_VALID`, R30 -/
  otpValid : Bool
  /-- `SD.VIOLATION`, R31 -/
  violation : Bool
  /-- `SD.CS`, R32 -/
  cs : Bool
  /-- `PE.BUF`, R33 -/
  buf : Vector Byte 16
  /-- `PE.IDX`, R34 -/
  idx : BitVec 5
  /-- `PE.WOVF`, R35 -/
  wovf : Bool
  /-- `PE.RX_EN`, R36 -/
  rxEn : Bool
  /-- `DF`, R37 -/
  df : DeviceFlags
  /-- `SC.SESSION_BASE`, R39 -/
  sessionBase : Word
  /-- `SC.TICK_PEND`, R40 -/
  tickPend : Bool
  /-- `SC.HOLD`, R41 -/
  hold : Hold
  /-- `CP`, R22 -/
  cp : Nat
  /-- the request program, R22 -/
  program : Program
  /-- `FAULT`, R42 -/
  faults : List Fault
  /-- `REFUSED`, R42 -/
  refused : Bool
  /-- `BUSTRACE`, R42, oldest first -/
  busTrace : List BusEvent
  /-- `TXTRACE`, R42, oldest first -/
  txTrace : List TxItem
  /-- `RESTRACE`, R42, oldest first -/
  resTrace : List Result
  /-- `WRITELOG`, R42 -/
  writeLog : Memory
  /-- the parameters of 00_scope.md R6, fixed for a run (R43) -/
  cfg : Params
  /-- the environment's inputs (log 3) -/
  env : Env
  deriving DecidableEq, Repr

/-- The values 70_reset_and_hazards.md R281 leaves unspecified (draws). -/
structure ResetDraws where
  sr1c : Byte
  sr2c : Byte
  otpBuf : List Byte
  buf : Vector Byte 16
  deriving DecidableEq, Repr

/-- The draws `State.reset` names: every byte 0 (DESIGN CHOICE, log 2). -/
def ResetDraws.zeros (p : Params) : ResetDraws where
  sr1c := 0
  sr2c := 0
  otpBuf := List.replicate p.otpLen 0
  buf := ⟨⟨[0, 0, 0, 0, 0, 0, 0, 0, 0, 0, 0, 0, 0, 0, 0, 0]⟩, rfl⟩

/-- The state after reset for any parameters and any reset draws (70_reset_and_hazards.md R281), running
FW_MAIN (R282). -/
def State.resetWith (p : Params) (d : ResetDraws) : State where
  drvActive := false
  pwr := .poweredDown
  sr1c := d.sr1c
  sr2c := d.sr2c
  srValid := false
  cursor := p.cursorInit
  otpBuf := d.otpBuf
  otpValid := false
  violation := false
  cs := false
  buf := d.buf
  idx := 0
  wovf := false
  rxEn := false
  df := ⟨false, false, false, false, false⟩
  sessionBase := p.cursorInit
  tickPend := false
  hold := .none
  cp := 0
  program := .fwMain
  faults := []
  refused := false
  busTrace := []
  txTrace := []
  resTrace := []
  writeLog := []
  cfg := p
  env := .unscripted

/-- The state after reset. The OPEN parameters and the reset draws stand at values the logs name
(DESIGN CHOICE, log 1 and log 2); every statement about reset is made of `State.resetWith`. -/
def State.reset : State := .resetWith .vectorBinding (.zeros .vectorBinding)

end Sys2Proof.Machine
end

