-- ==== Sys2Proof/Machine/Flags.lean ====
section
/-! DEFINITION. Flags: the fields of the status bytes (00_scope.md R10), DF as a byte (30_encoding.md
R115), the setting of its bits (10_state.md R37), SD_LOG's result-flag byte (R114) and the result code
numbers (R113). -/

namespace Sys2Proof.Machine

/-- `IsBusy(b1)` (00_scope.md R10). -/
def isBusy (p : Params) (b1 : Byte) : Bool := b1.getLsbD p.srBusyBit

/-- `IsWel(b1)` (00_scope.md R10). No rule of the block reads it (10_state.md R26). -/
def isWel (p : Params) (b1 : Byte) : Bool := b1.getLsbD p.srWelBit

/-- `IsProtected(b1, b2)` (00_scope.md R10). -/
def isProtected (p : Params) (b1 b2 : Byte) : Bool :=
  (b1 &&& p.sr1ProtMask) != 0 || (b2 &&& p.sr2ProtMask) != 0

/-- `DF` as the byte of 30_encoding.md R115: bit 0 LOGGING to bit 4 CMD_ERROR, bits 7:5 read 0. -/
def DeviceFlags.toByte (f : DeviceFlags) : Byte :=
  0#3 ++ BitVec.ofBool f.cmdError ++ BitVec.ofBool f.cmdOverflow ++ BitVec.ofBool f.tempError ++
    BitVec.ofBool f.memError ++ BitVec.ofBool f.logging

/-- `DF.MEM_ERROR <- 1`, sticky (10_state.md R37). -/
def DeviceFlags.setMemError (f : DeviceFlags) : DeviceFlags := { f with memError := true }

/-- `DF.TEMP_ERROR <- 1`, sticky (10_state.md R37). -/
def DeviceFlags.setTempError (f : DeviceFlags) : DeviceFlags := { f with tempError := true }

/-- `DF.CMD_OVERFLOW <- 1`, sticky (10_state.md R37). -/
def DeviceFlags.setCmdOverflow (f : DeviceFlags) : DeviceFlags := { f with cmdOverflow := true }

/-- `DF.LOGGING <- b`, the session state (10_state.md R38). -/
def DeviceFlags.setLogging (f : DeviceFlags) (b : Bool) : DeviceFlags := { f with logging := b }

/-- `F_BUSY` (30_encoding.md R114). -/
def flagBusy : Byte := 0x01

/-- `F_WP` (R114). -/
def flagWriteProtect : Byte := 0x02

/-- `F_BUSERR` (R114). -/
def flagBusError : Byte := 0x04

/-- `F_NOTREADY` (R114). -/
def flagNotReady : Byte := 0x08

/-- The flags with which SD_LOG declines to write (40_store_driver.md R153): `F_BUSY` and `F_WP` of the
freshly read status; both may be set. -/
def declineFlags (p : Params) (b1 b2 : Byte) : Byte :=
  (if isBusy p b1 then flagBusy else 0) ||| (if isProtected p b1 b2 then flagWriteProtect else 0)

/-- The result code numbers (30_encoding.md R113). -/
def ResultCode.number : ResultCode → BitVec 3
  | .ok => 0
  | .deviceNotFound => 1
  | .writeProtected => 2
  | .busBusy => 3
  | .notReady => 4
  | .busError => 5

/-- `OK`, or `BusError` when the request's transaction had outcome Err (40_store_driver.md). -/
def outcomeCode : BusOutcome → ResultCode
  | .ok => .ok
  | .err => .busError

end Sys2Proof.Machine
end

