-- ==== Sys2Proof/Machine/Operands.lean ====
section
/-! DEFINITION. Operands: the cells of the command buffer (10_state.md R33, 20_memory.md R85) as a frame
and as a timestamp (30_encoding.md R105, R107), and the word addresses of the store (20_memory.md R61,
R72, R75). Request operands are the instruction's own fields, used as they are (30_encoding.md R102). -/

namespace Sys2Proof.Machine

/-- `IsDigit(c)`: 0x30 to 0x39 (00_scope.md R10). -/
def isDigit (c : Byte) : Bool := decide (0x30#8 ≤ c) && decide (c ≤ 0x39#8)

/-- A timestamp is 14 digits, checked one by one and no further (30_encoding.md R107). -/
def validTimestamp (ts : List Byte) : Bool :=
  decide (ts.length = Config.timestampLength) && ts.all isDigit

/-- `PE.BUF[1..14]` (00_scope.md R10). -/
def timestampCells (buf : Vector Byte 16) : List Byte := (buf.toList.drop 1).take 14

/-- The frame dispatch reads: all 16 cells, whatever `PE.IDX` is (30_encoding.md R105; 70_reset_and_hazards.md R290). -/
def frameCells (buf : Vector Byte 16) : List Byte := buf.toList

/-- `a ≥ NVM_WORDS` (20_memory.md R72). -/
def outOfStore (p : Params) (a : Word) : Bool := decide (p.nvmWords ≤ a.toNat)

/-- How many words a dump sends: `SC.SESSION_BASE` up to `SD.CURSOR − 1` (20_memory.md R75). -/
def sessionWords (s : State) : Nat := s.cursor.toNat - s.sessionBase.toNat

end Sys2Proof.Machine
end

