-- ==== Sys2Proof/Machine/Ops.lean ====
section
/-! DEFINITION. The shared operations: WRITELOG, draws, the bus primitives (20_memory.md R64, R65) with
the device contract (R66 to R70), raising a fault (60_exceptions.md R242), the completion of a request
(10_state.md R22) and the fetch of the next request. The block takes no exception and has no return from
one (60_exceptions.md R240, R249, R250); raising a fault is the one operation of that kind. -/

namespace Sys2Proof.Machine

/-! ### WRITELOG -/

/-- The writes of one address, oldest first. -/
def Memory.entries : Memory → Nat → List LogEntry
  | [], _ => []
  | (b, es) :: m, a => if b = a then es else Memory.entries m a

/-- Append one write to an address's list (20_memory.md R66). -/
def Memory.push : Memory → Nat → LogEntry → Memory
  | [], a, e => [(a, [e])]
  | (b, es) :: m, a, e =>
    if a < b then (a, [e]) :: (b, es) :: m
    else if a = b then (b, es ++ [e]) :: m
    else (b, es) :: Memory.push m a e

/-- Every listed address is at least `lo`, addresses strictly rise, and no listed address has an empty
list. -/
def Memory.wfFrom : Memory → Nat → Bool
  | [], _ => true
  | (b, es) :: m, lo => decide (lo ≤ b) && !es.isEmpty && Memory.wfFrom m (b + 1)

/-- The one canonical form: equal logs are equal lists. -/
def Memory.wf (m : Memory) : Bool := m.wfFrom 0

/-- The value the device contract gives a read: the word was written exactly once, with outcome Ok
(20_memory.md R66). -/
def Memory.known (m : Memory) (a : Nat) : Option Word :=
  match m.entries a with
  | [.wrote v] => some v
  | _ => none

/-! ### Draws (log 3) -/

/-- The outcome of the next bus transaction (20_memory.md R70). -/
def Env.drawOutcome (e : Env) : BusOutcome × Env :=
  match e.busOutcomes with
  | o :: rest => (o, { e with busOutcomes := rest })
  | [] => (Config.freeOutcome e.drawNo, { e with drawNo := e.drawNo + 1 })

/-- The reply of the next status read (20_memory.md R68). -/
def Env.drawStatus (e : Env) : Byte × Env :=
  match e.srReplies with
  | b :: rest => (b, { e with srReplies := rest })
  | [] => (Config.freeByte e.drawNo, { e with drawNo := e.drawNo + 1 })

/-- The reply of the next READ that is a draw (20_memory.md R66). -/
def Env.drawWord (e : Env) : Word × Env :=
  match e.readReplies with
  | w :: rest => (w, { e with readReplies := rest })
  | [] => (Config.freeWord e.drawNo, { e with drawNo := e.drawNo + 1 })

/-- One byte of an ID or OTP reply that is a draw (20_memory.md R69). -/
def Env.drawIdOtp (e : Env) : Byte × Env :=
  match e.idOtpReplies with
  | b :: rest => (b, { e with idOtpReplies := rest })
  | [] => (Config.freeByte e.drawNo, { e with drawNo := e.drawNo + 1 })

/-- `n` bytes of an ID or OTP reply that is a draw (20_memory.md R69). -/
def Env.drawIdOtps : Nat → Env → List Byte × Env
  | 0, e => ([], e)
  | n + 1, e =>
    let (b, e1) := e.drawIdOtp
    let (bs, e2) := Env.drawIdOtps n e1
    (b :: bs, e2)

/-- `Sensor()`: a value and whether the sensor reports success (00_scope.md R9). -/
def Env.drawSensor (e : Env) : (Word × Bool) × Env :=
  match e.sensorReplies with
  | r :: rest => (r, { e with sensorReplies := rest })
  | [] => ((Config.freeWord e.drawNo, Config.freeFlag e.drawNo), { e with drawNo := e.drawNo + 1 })

/-- Who moves next (60_exceptions.md R248; log 4). -/
def Env.drawTurn (e : Env) : Turn × Env :=
  match e.turns with
  | t :: rest => (t, { e with turns := rest })
  | [] => (Config.freeTurn e.drawNo, { e with drawNo := e.drawNo + 1 })

/-! ### The bus -/

/-- What a bus transaction gives its request: outcome, reply and the state after it. -/
structure Txn (ρ : Type) where
  outcome : BusOutcome
  reply : ρ
  state : State

/-- What a transaction leaves in `WRITELOG` (20_memory.md R66): an Ok write its value, an Err write the
marker that makes every later read of the address a draw, any other command nothing. -/
def Memory.record (m : Memory) (o : BusOutcome) : BusCmd → Memory
  | .write a v => m.push a.toNat (match o with | .ok => .wrote v | .err => .failed)
  | .read _ => m
  | .rdsr1 => m
  | .rdsr2 => m
  | .wrsr1 _ => m
  | .udpd => m
  | .dpd => m
  | .otpRead => m
  | .readId => m

/-- `BusTxn(cmd, args)` (20_memory.md R64): chip select asserted, the outcome drawn, the device's answer,
chip select released whatever the outcome, the trace extended. `answer` is the device's side (R66 to R69)
and `entry` how the reply stands in the trace. -/
def busTxn {ρ : Type} (cmd : BusCmd) (answer : BusOutcome → Env → ρ × Env) (entry : ρ → Reply)
    (s : State) : Txn ρ :=
  let asserted := { s with cs := true }
  let (o, e1) := asserted.env.drawOutcome
  let (r, e2) := answer o e1
  ⟨o, r, { asserted with
    cs := false
    env := e2
    writeLog := asserted.writeLog.record o cmd
    busTrace := asserted.busTrace ++ [.txn cmd o (entry r)] }⟩

/-- The device's answer to READ (20_memory.md R66): the value of a single Ok write, a draw otherwise. -/
def answerRead (m : Memory) (a : Word) (o : BusOutcome) (e : Env) : Word × Env :=
  match o, m.known a.toNat with
  | .ok, some v => (v, e)
  | .ok, none => e.drawWord
  | .err, _ => e.drawWord

/-- The device's answer to a status read: a draw with no law (20_memory.md R68). -/
def answerStatus (_ : BusOutcome) (e : Env) : Byte × Env := e.drawStatus

/-- The device's answer to a whole-region read: its constant when Ok, draws on Err (20_memory.md R69). -/
def answerConstant (content : List Byte) (n : Nat) (o : BusOutcome) (e : Env) : List Byte × Env :=
  match o with
  | .ok => (content, e)
  | .err => Env.drawIdOtps n e

/-- Commands without a reply (30_encoding.md R118). -/
def answerNothing (_ : BusOutcome) (e : Env) : Unit × Env := ((), e)

/-- A command without a reply stands in the trace with none. -/
def noReply (_ : Unit) : Reply := .none

/-- `BusTxn(READ, a)`. -/
def busRead (a : Word) (s : State) : Txn Word := busTxn (.read a) (answerRead s.writeLog a) .word s

/-- `BusTxn(WRITE, a, v)`. -/
def busWrite (a v : Word) (s : State) : Txn Unit := busTxn (.write a v) answerNothing noReply s

/-- `BusTxn(RDSR1)`. -/
def busRdsr1 (s : State) : Txn Byte := busTxn .rdsr1 answerStatus .byte s

/-- `BusTxn(RDSR2)`. -/
def busRdsr2 (s : State) : Txn Byte := busTxn .rdsr2 answerStatus .byte s

/-- `BusTxn(WRSR1, v)`. -/
def busWrsr1 (v : Byte) (s : State) : Txn Unit := busTxn (.wrsr1 v) answerNothing noReply s

/-- `BusTxn(UDPD)`. -/
def busUdpd (s : State) : Txn Unit := busTxn .udpd answerNothing noReply s

/-- `BusTxn(DPD)`. -/
def busDpd (s : State) : Txn Unit := busTxn .dpd answerNothing noReply s

/-- `BusTxn(OTP_READ)`. -/
def busOtpRead (s : State) : Txn (List Byte) :=
  busTxn .otpRead (answerConstant s.cfg.otpContent s.cfg.otpLen) .bytes s

/-- `BusTxn(READ_ID)`. -/
def busReadId (s : State) : Txn (List Byte) :=
  busTxn .readId (answerConstant s.cfg.deviceId s.cfg.idLen) .bytes s

/-- `WakeTrigger()` (20_memory.md R65): no outcome, no reply, chip select 0 at its end. -/
def wakeTrigger (s : State) : State := { s with cs := false, busTrace := s.busTrace ++ [.wake] }

/-- The opcode byte a command's frame begins with (30_encoding.md R118, R119). No rule reads it; frames
are abstract (log 15). -/
def busOpcode (ops : BusOps) : BusCmd → Byte
  | .read _ => ops.read
  | .write _ _ => ops.write
  | .rdsr1 => ops.rdsr1
  | .rdsr2 => ops.rdsr2
  | .wrsr1 _ => ops.wrsr1
  | .udpd => ops.udpd
  | .dpd => ops.dpd
  | .otpRead => ops.otpRead
  | .readId => ops.readId

/-! ### Bodies, faults and completion -/

/-- How the body of a request ends (60_exceptions.md R242, R250): it returns to its container, or it has
raised a fault and the request does not complete. -/
inductive Body (α : Type) where
  | done (r : α) (s : State)
  | faulted (s : State)

/-- `raise Fault(name)` (60_exceptions.md R242): recorded in `FAULT`; what was changed before stands. -/
def State.raise (s : State) (f : Fault) : State := { s with faults := s.faults ++ [f] }

/-- A `NotReady` refusal of an SD request sets `SD.VIOLATION` (10_state.md R31; 40_store_driver.md R140). -/
def State.flagViolation (s : State) : State := { s with violation := true }

/-- `DF.MEM_ERROR <- 1`. -/
def State.memError (s : State) : State := { s with df := s.df.setMemError }

/-- `SC.HOLD <- h`. -/
def State.setHold (s : State) (h : Hold) : State := { s with hold := h }

/-- `TX(item)` (00_scope.md R9). -/
def State.tx (s : State) (item : TxItem) : State := { s with txTrace := s.txTrace ++ [item] }

/-- `PE.IDX <- 0; PE.WOVF <- 0`; the cells keep their bytes (41_protocol_engine.md R180). -/
def State.clearBuffer (s : State) : State := { s with idx := 0, wovf := false }

/-- A request returns `r`: `RESTRACE` extended, `CP <- CP + 1` (10_state.md R22, R42). -/
def State.finish (s : State) (r : Result) : State :=
  { s with resTrace := s.resTrace ++ [r], cp := s.cp + 1 }

/-- The outcome of a request that returns `r`. -/
def complete (r : Result) (s : State) : Host.Outcome State Fault Refusal := .next (s.finish r)

/-- The outcome of a request from its body: it completes, or it has raised a fault and the faulted state
stands (60_exceptions.md R242; log 6). -/
def completeBody {α : Type} (f : α → Result) : Body α → Host.Outcome State Fault Refusal
  | .done r s => complete (f r) s
  | .faulted s => .next s

/-! ### The request program -/

/-- FW_MAIN's `goto LOOP` (42_session_controller.md R219): past the last word `CP` goes back to the loop's
index (log 12). -/
def State.followGoto (s : State) : State :=
  match s.program.loopTo with
  | some k => if s.cp = s.program.words.length then { s with cp := k } else s
  | none => s

/-- The request word at `CP` (10_state.md R22). -/
def State.fetchWord (s : State) : Option ReqWord := s.program.words[s.cp]?

/-- The request at `CP`, where its word spells one. -/
def State.currentRequest (s : State) : Option Instr := s.fetchWord.bind fun w => (decodeRequest w).toOption

/-- A run has ended (10_state.md R23). -/
def State.ended (s : State) : Bool :=
  decide (s.cp = s.program.words.length) && s.program.loopTo.isNone && decide (s.hold = .none) &&
    s.faults.isEmpty && !s.refused

/-- Store a request word where the next request is fetched, lengthening the program if it is too short. -/
def Program.put (p : Program) (at' : Nat) (w : ReqWord) : Program :=
  { p with words := (p.words.take at' ++ List.replicate (at' - p.words.length) 0#40) ++ w :: p.words.drop (at' + 1) }

end Sys2Proof.Machine
end

