-- ==== Sys2Proof/Machine/StoreDriver.lean ====
section
/-! DEFINITION. The requests of the store driver, 40_store_driver.md. A body is what a request does up to
its result; other requests run bodies too (60_exceptions.md R250). `exec…` is the request itself. -/

namespace Sys2Proof.Machine

/-- `ReadyForBus()` (40_store_driver.md R140). -/
def readyForBus (s : State) : Bool :=
  s.drvActive && (decide (s.pwr = .awake) || decide (s.pwr = .busy))

/-- The status read shared by SD_REFRESH and SD_LOG (R145, R153): RDSR1 then RDSR2, the second whatever
the first's outcome; on any Err the cache is invalid and nothing else changes, otherwise the cache is
filled and `SD.PWR` follows the busy bit. Answers the bytes when both were Ok. -/
def readStatus (s : State) : Option (Byte × Byte) × State :=
  let t1 := busRdsr1 s
  let t2 := busRdsr2 t1.state
  match t1.outcome, t2.outcome with
  | .ok, .ok =>
    (some (t1.reply, t2.reply),
      { t2.state with
        sr1c := t1.reply
        sr2c := t2.reply
        srValid := true
        pwr := if isBusy s.cfg t1.reply then .busy else .awake })
  | _, _ => (none, { t2.state with srValid := false })

/-- SD_REFRESH up to its result (R145). -/
def refreshBody (s : State) : ResultCode × State :=
  if readyForBus s then
    match readStatus s with
    | (some _, s1) => (.ok, s1)
    | (none, s1) => (.busError, s1)
  else (.notReady, s.flagViolation)

/-- SD_READ up to its result (R144): the word where one is returned. -/
def readBody (a : Word) (s : State) : Body (ResultCode × Option Word) :=
  if readyForBus s then
    if outOfStore s.cfg a then .faulted (s.raise (.addrRange a))
    else if s.pwr = .busy then .done (.busBusy, none) s
    else
      let t := busRead a s
      .done (outcomeCode t.outcome, some t.reply) t.state
  else .done (.notReady, none) s.flagViolation

/-- SD_WRITE up to its result (R143): the cached status decides protection, valid or not. -/
def writeBody (a v : Word) (s : State) : Body ResultCode :=
  if readyForBus s then
    if outOfStore s.cfg a then .faulted (s.raise (.addrRange a))
    else if isProtected s.cfg s.sr1c s.sr2c then .done .writeProtected s
    else if s.pwr = .busy then .done .busBusy s
    else
      let t := busWrite a v s
      .done (outcomeCode t.outcome) { t.state with srValid := false, pwr := .busy }
  else .done .notReady s.flagViolation

/-- SD_UDPD_ENTER up to its result (R149). -/
def udpdEnterBody (s : State) : ResultCode × State :=
  if readyForBus s then
    if s.pwr = .busy then (.busBusy, s)
    else
      let t := busUdpd s
      (outcomeCode t.outcome, { t.state with pwr := .poweredDown, srValid := false })
  else (.notReady, s.flagViolation)

/-- SD_UDPD_EXIT_BEGIN up to its result (R150). -/
def udpdExitBody (s : State) : ResultCode × State :=
  if s.drvActive then
    if s.pwr = .poweredDown then (.ok, { wakeTrigger s with pwr := .waking }) else (.ok, s)
  else (.notReady, s.flagViolation)

/-- `Advance()` (R152): the cursor never wraps, the last address raises `StoreExhausted`. -/
def advanceCursor (s : State) : Body Unit :=
  if s.cursor.toNat + 1 = s.cfg.nvmWords then .faulted (s.raise (.storeExhausted s.cursor))
  else .done () { s with cursor := s.cursor + 1 }

/-- SD_LOG up to its flag byte (R153). The write's own Err is reported after the advance; a fault of the
advance pre-empts it (60_exceptions.md R247). -/
def logBody (v : Word) (s : State) : Body Byte :=
  if readyForBus s then
    match readStatus s with
    | (none, s1) => .done flagBusError s1
    | (some (b1, b2), s1) =>
      if declineFlags s.cfg b1 b2 ≠ 0 then .done (declineFlags s.cfg b1 b2) s1
      else
        let t := busWrite s1.cursor v s1
        match advanceCursor { t.state with srValid := false, pwr := .busy } with
        | .faulted s2 => .faulted s2
        | .done () s2 => .done (match t.outcome with | .ok => 0 | .err => flagBusError) s2
  else .done flagNotReady s.flagViolation

/-- SD_READ_ID up to its result (R155): the bytes where they are returned. -/
def readIdBody (s : State) : (ResultCode × Option (List Byte)) × State :=
  if readyForBus s then
    if s.pwr = .busy then ((.busBusy, none), s)
    else
      let t := busReadId s
      ((outcomeCode t.outcome, some t.reply), t.state)
  else ((.notReady, none), s.flagViolation)

/-- SD_INIT's second half, once the settling wait is over (R141): the driver takes the bus and compares
the identification; a bus error counts as a mismatch. -/
def initIdentify (s : State) : ResultCode × State :=
  let t := busReadId { s with hold := .none, drvActive := true }
  if t.outcome = .ok ∧ t.reply = s.cfg.expectedId then (.ok, t.state)
  else (.deviceNotFound, t.state.memError)

/-- SD_INIT (R141): wakes the device and holds; resumes when SETTLED has come. -/
def execSdInit (s : State) : Host.Outcome State Fault Refusal :=
  if s.hold = .settle then
    if s.pwr = .waking then .next s
    else complete (.code (initIdentify s).1) (initIdentify s).2
  else if s.drvActive then complete (.code .notReady) s.flagViolation
  else .next { wakeTrigger s with pwr := .waking, hold := .settle }

/-- SD_TERM (R142). -/
def execSdTerm (s : State) : Host.Outcome State Fault Refusal :=
  if s.drvActive = false ∨ s.pwr = .waking then complete (.code .notReady) s.flagViolation
  else if s.pwr = .busy then complete (.code .busBusy) s
  else if s.pwr = .awake then
    let t := busDpd s
    complete (.code (outcomeCode t.outcome))
      { t.state with pwr := .poweredDown, srValid := false, drvActive := false }
  else complete (.code .ok) { s with pwr := .poweredDown, srValid := false, drvActive := false }

/-- SD_WRITE (R143). -/
def execSdWrite (a v : Word) (s : State) : Host.Outcome State Fault Refusal :=
  completeBody .code (writeBody a v s)

/-- How SD_READ's result stands in `RESTRACE` (10_state.md R42). -/
def readResult : ResultCode × Option Word → Result
  | (r, some w) => .word r w
  | (r, none) => .code r

/-- SD_READ (R144). -/
def execSdRead (a : Word) (s : State) : Host.Outcome State Fault Refusal :=
  completeBody readResult (readBody a s)

/-- SD_REFRESH (R145). -/
def execSdRefresh (s : State) : Host.Outcome State Fault Refusal :=
  complete (.code (refreshBody s).1) (refreshBody s).2

/-- SD_GETSR1 (R146): a pure cache read. -/
def execSdGetSr1 (s : State) : Host.Outcome State Fault Refusal := complete (.byte .ok s.sr1c) s

/-- SD_GETSR2 (R147): a pure cache read. -/
def execSdGetSr2 (s : State) : Host.Outcome State Fault Refusal := complete (.byte .ok s.sr2c) s

/-- SD_WRSR1 (R148): no protection check, the cached bytes are not updated. -/
def execSdWrSr1 (v : Byte) (s : State) : Host.Outcome State Fault Refusal :=
  if readyForBus s then
    if s.pwr = .busy then complete (.code .busBusy) s
    else
      let t := busWrsr1 v s
      complete (.code (outcomeCode t.outcome)) { t.state with srValid := false, pwr := .busy }
  else complete (.code .notReady) s.flagViolation

/-- SD_UDPD_ENTER (R149). -/
def execSdUdpdEnter (s : State) : Host.Outcome State Fault Refusal :=
  complete (.code (udpdEnterBody s).1) (udpdEnterBody s).2

/-- SD_UDPD_EXIT_BEGIN (R150): never holds. -/
def execSdUdpdExitBegin (s : State) : Host.Outcome State Fault Refusal :=
  complete (.code (udpdExitBody s).1) (udpdExitBody s).2

/-- SD_LOAD_OTP (R154). -/
def execSdLoadOtp (s : State) : Host.Outcome State Fault Refusal :=
  if readyForBus s then
    if s.pwr = .busy then complete (.code .busBusy) s
    else
      let t := busOtpRead s
      match t.outcome with
      | .ok => complete (.code .ok) { t.state with otpBuf := t.reply, otpValid := true }
      | .err => complete (.code .busError) t.state
  else complete (.code .notReady) s.flagViolation

/-- SD_LOG (R153): the result is the flag byte. -/
def execSdLog (v : Word) (s : State) : Host.Outcome State Fault Refusal :=
  completeBody .logFlags (logBody v s)

/-- How SD_READ_ID's result stands in `RESTRACE` (10_state.md R42). -/
def readIdResult : ResultCode × Option (List Byte) → Result
  | (r, some bs) => .bytes r bs
  | (r, none) => .code r

/-- SD_READ_ID (R155). -/
def execSdReadId (s : State) : Host.Outcome State Fault Refusal :=
  complete (readIdResult (readIdBody s).1) (readIdBody s).2

/-- SD_PRINT_ID (R156): sends the raw bytes on OK only; the result is the code without the bytes. -/
def execSdPrintId (s : State) : Host.Outcome State Fault Refusal :=
  match readIdBody s with
  | ((.ok, some bs), s1) => complete (.code .ok) (s1.tx (.diag bs))
  | ((r, _), s1) => complete (.code r) s1

end Sys2Proof.Machine
end

