-- ==== Sys2Proof/Machine/SessionController.lean ====
section
/-! DEFINITION. The session controller's bodies (42_session_controller.md): the two transitions, the
sample, the busy poll; its requests, less the tick cycle, which contains a handshake window and stands
in TickCycle.lean. -/

namespace Sys2Proof.Machine

/-- The `B` transition on a timestamp (R211). -/
def beginBody (ts : List Byte) (s : State) : State :=
  if validTimestamp ts && !s.df.logging then
    { s with df := s.df.setLogging true, sessionBase := s.cursor }
  else s

/-- The `E` transition on a timestamp (R212): it is not compared with the start one. -/
def endBody (ts : List Byte) (s : State) : State :=
  if validTimestamp ts && s.df.logging then { s with df := s.df.setLogging false } else s

/-- SC_SAMPLE up to its result (R213): while Logging, one reading and one SD_LOG, whatever the sensor
reports. -/
def sampleBody (s : State) : Body Unit :=
  if s.df.logging then
    let ((v, ok), env) := s.env.drawSensor
    let s1 := { s with env := env, df := if ok then s.df else s.df.setTempError }
    match logBody v s1 with
    | .faulted s2 => .faulted s2
    | .done f s2 => .done () (if f ≠ 0 then s2.memError else s2)
  else .done () s

/-- The poll of SC_QUIESCE (R214): at most `n` refreshes while the device is busy. -/
def pollBusy : Nat → State → State
  | 0, s => s
  | n + 1, s => if s.drvActive && decide (s.pwr = .busy) then pollBusy n (refreshBody s).2 else s

/-- SC_QUIESCE up to its result (R214). -/
def quiesceBody (s : State) : ResultCode × State :=
  let s1 := pollBusy s.cfg.busyPollLimit s
  if s1.drvActive && decide (s1.pwr = .awake) then (.ok, s1)
  else if s1.pwr = .busy then (.busBusy, s1)
  else (.notReady, s1)

/-- SC_BEGIN (R211). -/
def execScBegin (s : State) : Host.Outcome State Fault Refusal :=
  complete (.code .ok) (beginBody (timestampCells s.buf) s)

/-- SC_END (R212). -/
def execScEnd (s : State) : Host.Outcome State Fault Refusal :=
  complete (.code .ok) (endBody (timestampCells s.buf) s)

/-- SC_SAMPLE (R213). -/
def execScSample (s : State) : Host.Outcome State Fault Refusal :=
  completeBody (fun _ => .code .ok) (sampleBody s)

/-- SC_QUIESCE (R214). -/
def execScQuiesce (s : State) : Host.Outcome State Fault Refusal :=
  complete (.code (quiesceBody s).1) (quiesceBody s).2

/-- WAIT_TICK (R217): holds until a tick is pending, then takes it. -/
def execWaitTick (s : State) : Host.Outcome State Fault Refusal :=
  if s.tickPend then complete (.code .ok) { s with tickPend := false, hold := .none }
  else .next (s.setHold .tick)

/-- WAIT_SETTLE (R218): holds while the device is waking. -/
def execWaitSettle (s : State) : Host.Outcome State Fault Refusal :=
  if s.pwr = .waking then .next (s.setHold .settle) else complete (.code .ok) (s.setHold .none)

end Sys2Proof.Machine
end

