-- ==== Sys2Proof/Machine/ProtocolEngine.lean ====
section
/-! DEFINITION. The protocol engine (41_protocol_engine.md): the command buffer, the handshake window, the
dispatch and the dump. -/

namespace Sys2Proof.Machine

/-- PE_APPEND's body (R181): a byte beyond the capacity is discarded and flagged. -/
def appendBody (c : Byte) (s : State) : State :=
  if h : s.idx.toNat < 16 then { s with buf := s.buf.set s.idx.toNat c h, idx := s.idx + 1 }
  else { s with wovf := true, df := s.df.setCmdOverflow }

/-- One address of a dump (R186): a failed read sets `DF.MEM_ERROR`, and the word the read gave is sent
also then. After a quiesce every read gives one (log 17). -/
def dumpItem (r : ResultCode × Option Word) (s : State) : State :=
  let s1 := if r.1 = .ok then s else s.memError
  match r.2 with
  | some w => s1.tx (.word w)
  | none => s1

/-- The dump of `n` words from address `a` on (R186), in ascending order. -/
def dumpWords : Nat → Nat → State → Body Unit
  | 0, _, s => .done () s
  | n + 1, a, s =>
    match readBody (BitVec.ofNat 16 a) s with
    | .faulted s1 => .faulted s1
    | .done r s1 => dumpWords n (a + 1) (dumpItem r s1)

/-- PE_DUMP up to its result (R186): the device must be quiet first. -/
def dumpBody (s : State) : Body Unit :=
  match quiesceBody s with
  | (.ok, s1) => dumpWords (sessionWords s1) s1.sessionBase.toNat s1
  | (_, s1) => .done () s1.memError

/-- Whether dispatch discards the window for overflow (R185; `OVF_DISCARD_SCOPE`). -/
def overflowDiscards (s : State) : Bool :=
  (s.wovf && decide (s.cfg.ovfDiscardScope = .window)) ||
    (s.df.cmdOverflow && decide (s.cfg.ovfDiscardScope = .sticky))

/-- Clear the buffer after dispatch, whatever was executed (R185). -/
def clearAfter : Body Unit → Body Unit
  | .faulted s => .faulted s
  | .done () s => .done () s.clearBuffer

/-- The switch of PE_DISPATCH (R185): nothing for an empty or an overflowed buffer, otherwise by the first
byte, matched on all 8 bits; an unknown byte does nothing and sets no flag. -/
def dispatchSwitch (s : State) : Body Unit :=
  if s.idx = 0 then .done () s
  else if overflowDiscards s then .done () s
  else if s.buf[0] = 0x44#8 then dumpBody s
  else if s.buf[0] = 0x42#8 then .done () (beginBody (timestampCells s.buf) s)
  else if s.buf[0] = 0x45#8 then .done () (endBody (timestampCells s.buf) s)
  else .done () s

/-- PE_DISPATCH up to its result (R185). -/
def dispatchBody (s : State) : Body Unit := clearAfter (dispatchSwitch s)

/-- PE_EXCHANGE up to its hold (R183): buffer cleared, receive enabled, then the sentinel sent. -/
def openWindow (s : State) : State :=
  ({ s.clearBuffer with rxEn := true, hold := .window }).tx (.byte Config.sentinel)

/-- PE_CLEAR (R180). -/
def execPeClear (s : State) : Host.Outcome State Fault Refusal := complete (.code .ok) s.clearBuffer

/-- PE_APPEND (R181). -/
def execPeAppend (c : Byte) (s : State) : Host.Outcome State Fault Refusal :=
  complete (.code .ok) (appendBody c s)

/-- PE_EXCHANGE (R183): opens the window and holds; when TIMEOUT has closed it, dispatches. -/
def execPeExchange (s : State) : Host.Outcome State Fault Refusal :=
  if s.hold = .window then
    if s.rxEn then .next s else completeBody (fun _ => .code .ok) (dispatchBody (s.setHold .none))
  else .next (openWindow s)

/-- PE_DISPATCH (R185). -/
def execPeDispatch (s : State) : Host.Outcome State Fault Refusal :=
  completeBody (fun _ => .code .ok) (dispatchBody s)

/-- PE_DUMP (R186). -/
def execPeDump (s : State) : Host.Outcome State Fault Refusal :=
  completeBody (fun _ => .code .ok) (dumpBody s)

end Sys2Proof.Machine
end

