-- ==== Sys2Proof/Machine/TickCycle.lean ====
section
/-! DEFINITION. SC_TICK_CYCLE (42_session_controller.md R215), in the four pieces its two holds cut it
into. -/

namespace Sys2Proof.Machine

/-- The end of a tick cycle (R215): quiesce, then power down; a device that cannot be powered down sets
`DF.MEM_ERROR`. -/
def tickPowerDown (s : State) : State :=
  let (q, s1) := quiesceBody s
  if q = .ok then
    let (r, s2) := udpdEnterBody s1
    if r = .ok then s2 else s2.memError
  else if s1.drvActive then s1.memError
  else s1

/-- After the handshake window (R215): the sample if it comes second, then the end. -/
def tickAfterWindow (s : State) : Body Unit :=
  match s.cfg.tickOrder with
  | .sampleFirst => .done () (tickPowerDown s)
  | .exchangeFirst =>
    match sampleBody s with
    | .faulted s1 => .faulted s1
    | .done () s1 => .done () (tickPowerDown s1)

/-- Once the device is not waking (R215): the sample if it comes first, then the window opens. -/
def tickToWindow (s : State) : Host.Outcome State Fault Refusal :=
  match s.cfg.tickOrder with
  | .exchangeFirst => .next (openWindow s)
  | .sampleFirst =>
    match sampleBody s with
    | .faulted s1 => .next s1
    | .done () s1 => .next (openWindow s1)

/-- The beginning of a tick cycle (R215): wake a powered-down device and wait for it to settle. -/
def tickBegin (s : State) : Host.Outcome State Fault Refusal :=
  let s1 := if s.drvActive && decide (s.pwr = .poweredDown) then (udpdExitBody s).2 else s
  if s1.pwr = .waking then .next (s1.setHold .settle) else tickToWindow s1

/-- After the window's dispatch: the rest of the tick cycle (R215). -/
def tickAfterDispatch (b : Body Unit) : Host.Outcome State Fault Refusal :=
  match b with
  | .faulted s => .next s
  | .done () s => completeBody (fun _ => .code .ok) (tickAfterWindow s)

/-- SC_TICK_CYCLE (R215). -/
def execScTickCycle (s : State) : Host.Outcome State Fault Refusal :=
  if s.hold = .settle then
    if s.pwr = .waking then .next s else tickToWindow (s.setHold .none)
  else if s.hold = .window then
    if s.rxEn then .next s else tickAfterDispatch (dispatchBody (s.setHold .none))
  else tickBegin s

end Sys2Proof.Machine
end

