-- ==== Sys2Proof/Machine/HostCommands.lean ====
section
/-! DEFINITION. The host commands `D`, `B`, `E` (30_encoding.md R106), run where dispatch reads their
frame at the end of a handshake window (41_protocol_engine.md R185), and the next thing the control
agent does (log 10). -/

namespace Sys2Proof.Machine

/-- A host command's own effect, the buffer cleared after it, and then whatever contains the window: the
rest of a tick cycle, or else the end of the exchange (60_exceptions.md R250; log 10). -/
def hostCommand (body : State → Body Unit) (s : State) : Host.Outcome State Fault Refusal :=
  let after := clearAfter (body (s.setHold .none))
  if s.hold = .window ∧ s.currentRequest = some .scTickCycle then tickAfterDispatch after
  else completeBody (fun _ => .code .ok) after

/-- HOST_D: the dump (41_protocol_engine.md R186); the bytes after the `D` are ignored (30_encoding.md R108). -/
def execHostD (_rest : List Byte) (s : State) : Host.Outcome State Fault Refusal := hostCommand dumpBody s

/-- HOST_B: Idle to Logging on a valid timestamp (42_session_controller.md R211); byte 15 is ignored. -/
def execHostB (ts : List Byte) (_filler : Byte) (s : State) : Host.Outcome State Fault Refusal :=
  hostCommand (fun s1 => .done () (beginBody ts s1)) s

/-- HOST_E: Logging to Idle on a valid timestamp (42_session_controller.md R212); byte 15 is ignored. -/
def execHostE (ts : List Byte) (_filler : Byte) (s : State) : Host.Outcome State Fault Refusal :=
  hostCommand (fun s1 => .done () (endBody ts s1)) s

/-- The host command a window holds, if dispatch would execute one (41_protocol_engine.md R185): none for
an empty buffer, an overflowed one or an unknown first byte (30_encoding.md R109, R110). -/
def State.command (s : State) : Option Instr :=
  if s.idx = 0 then none
  else if overflowDiscards s then none
  else (decodeFrame (frameCells s.buf)).toOption

/-- What the control agent's turn does. -/
inductive Action where
  /-- run this instruction -/
  | run (i : Instr)
  /-- the word at `CP` spells no request (60_exceptions.md R244) -/
  | refuse
  /-- no request is left -/
  | idle
  deriving DecidableEq, Repr

/-- The instruction the control agent runs next: the host command a closed window holds, while the agent
is still at that window's hold; otherwise the request at `CP`, new or resumed after its hold (10_state.md
R22, R41; log 10). -/
def State.nextAction (s : State) : Action :=
  match s.fetchWord with
  | none => .idle
  | some w =>
    match decodeRequest w with
    | .error _ => .refuse
    | .ok i =>
      if s.hold = .window ∧ s.rxEn = false ∧ (i = .peExchange ∨ i = .scTickCycle) then
        match s.command with
        | some h => .run h
        | none => .run i
      else .run i

/-- `refuse(BadRequest)` (60_exceptions.md R244): the mark, and no register changes. -/
def State.refuse (s : State) : State := { s with refused := true }

end Sys2Proof.Machine
end

