-- ==== Sys2Proof/Machine/Dispatch.lean ====
section
/-! DEFINITION. One arm per constructor of `Instr`. -/

namespace Sys2Proof.Machine

def exec (i : Instr) (s : State) : Host.Outcome State Fault Refusal :=
  match i with
  | .sdInit => Sys2Proof.Machine.execSdInit s
  | .sdTerm => Sys2Proof.Machine.execSdTerm s
  | .sdWrite a v => Sys2Proof.Machine.execSdWrite a v s
  | .sdRead a => Sys2Proof.Machine.execSdRead a s
  | .sdRefresh => Sys2Proof.Machine.execSdRefresh s
  | .sdGetSr1 => Sys2Proof.Machine.execSdGetSr1 s
  | .sdGetSr2 => Sys2Proof.Machine.execSdGetSr2 s
  | .sdWrSr1 v => Sys2Proof.Machine.execSdWrSr1 v s
  | .sdUdpdEnter => Sys2Proof.Machine.execSdUdpdEnter s
  | .sdUdpdExitBegin => Sys2Proof.Machine.execSdUdpdExitBegin s
  | .sdLoadOtp => Sys2Proof.Machine.execSdLoadOtp s
  | .sdLog v => Sys2Proof.Machine.execSdLog v s
  | .sdReadId => Sys2Proof.Machine.execSdReadId s
  | .sdPrintId => Sys2Proof.Machine.execSdPrintId s
  | .peClear => Sys2Proof.Machine.execPeClear s
  | .peAppend c => Sys2Proof.Machine.execPeAppend c s
  | .peExchange => Sys2Proof.Machine.execPeExchange s
  | .peDispatch => Sys2Proof.Machine.execPeDispatch s
  | .peDump => Sys2Proof.Machine.execPeDump s
  | .scBegin => Sys2Proof.Machine.execScBegin s
  | .scEnd => Sys2Proof.Machine.execScEnd s
  | .scSample => Sys2Proof.Machine.execScSample s
  | .scQuiesce => Sys2Proof.Machine.execScQuiesce s
  | .scTickCycle => Sys2Proof.Machine.execScTickCycle s
  | .waitTick => Sys2Proof.Machine.execWaitTick s
  | .waitSettle => Sys2Proof.Machine.execWaitSettle s
  | .hostD rest => Sys2Proof.Machine.execHostD rest s
  | .hostB timestamp filler => Sys2Proof.Machine.execHostB timestamp filler s
  | .hostE timestamp filler => Sys2Proof.Machine.execHostE timestamp filler s

end Sys2Proof.Machine
end

