-- ==== Sys2Proof/Machine/Events.lean ====
section
/-! DEFINITION. The events of the environment (60_exceptions.md R245): each an atomic update of the
registers its rule names. An event that is not enabled does not occur (log 4). -/

namespace Sys2Proof.Machine

/-- RX(c) (41_protocol_engine.md R182): dropped unless the receive path is enabled. -/
def eventRx (c : Byte) (s : State) : State := if s.rxEn then appendBody c s else s

/-- TICK (42_session_controller.md R216). -/
def eventTick (s : State) : State := { s with tickPend := true }

/-- TIMEOUT (41_protocol_engine.md R184), enabled only while `SC.HOLD = WINDOW`. -/
def eventTimeout (s : State) : State := if s.hold = .window then { s with rxEn := false } else s

/-- SETTLED (40_store_driver.md R151), enabled only while `SD.PWR = Waking`. -/
def eventSettled (s : State) : State := if s.pwr = .waking then { s with pwr := .awake } else s

/-- One event. -/
def applyEvent : Event → State → State
  | .rx c, s => eventRx c s
  | .tick, s => eventTick s
  | .timeout, s => eventTimeout s
  | .settled, s => eventSettled s

end Sys2Proof.Machine
end

