-- ==== Sys2Proof/Machine/Step.lean ====
section
/-! DEFINITION. One step (60_exceptions.md R248): one event, or one turn of the control agent, which runs
one request to completion or to its hold, or resumes one. -/

namespace Sys2Proof.Machine

/-- The control agent's turn. Once a fault is recorded or a word was refused it takes no further step
(60_exceptions.md R242, R244; log 6, log 7); at the end of the program it has nothing to do (log 8). -/
def agentTurn (s : State) : Host.Outcome State Fault Refusal :=
  match s.faults with
  | f :: _ => .fault f
  | [] =>
    if s.refused then .refused .badRequest
    else
      match s.followGoto.nextAction with
      | .run i => exec i s.followGoto
      | .refuse => .next s.followGoto.refuse
      | .idle => .next s

/-- The next turn is taken from the environment's list, then it is the agent's or an event's. -/
def step (s : State) : Host.Outcome State Fault Refusal :=
  match s.env.drawTurn with
  | (.agent, env) => agentTurn { s with env := env }
  | (.event e, env) => .next (applyEvent e { s with env := env })

/-- The state in which the very next step runs the instruction whose bits are `w` (log 11): the next turn
is the agent's, no fault or refusal stands in its way, and either the word stands at `CP` with no hold
pending, or a handshake window that holds the frame has just closed around PE_EXCHANGE. -/
def State.withFetchWord (s : State) (nbits w : Nat) : State :=
  let ready := { s with env := { s.env with turns := .agent :: s.env.turns }, faults := [], refused := false }
  if isRequestWidth nbits then
    { ready with hold := .none, program := s.program.put s.cp (BitVec.ofNat 40 w) }
  else
    { ready with
      hold := .window
      rxEn := false
      buf := ⟨⟨frameBytes w⟩, rfl⟩
      idx := 16
      wovf := false
      df := { s.df with cmdOverflow := s.df.cmdOverflow && decide (s.cfg.ovfDiscardScope = .window) }
      program := s.program.put s.cp Instr.peExchange.requestWord }

end Sys2Proof.Machine
end

