-- ==== Sys2Proof/Safety.lean ====
section
/-! DEFINITION. What claims about runs are stated in: when a state is stopped, ended or asleep, what a
program may observe, and the invariant every step keeps (10_state.md R44). -/

namespace Sys2Proof.Machine

/-- No fault is recorded and no word was refused: what every claim takes as a premise (60_exceptions.md R257). -/
def State.live (s : State) : Prop := s.faults = [] ∧ s.refused = false

/-- The block's low-power sleep: exactly while `SC.HOLD = TICK` (60_exceptions.md R256). -/
def State.asleep (s : State) : Prop := s.hold = .tick

/-- The hold belongs to the request at `CP` (10_state.md R41, 60_exceptions.md R243). -/
def HoldFits (s : State) : Prop :=
  match s.hold with
  | .none => True
  | .settle => s.currentRequest = some .sdInit ∨ s.currentRequest = some .scTickCycle ∨
      s.currentRequest = some .waitSettle
  | .window => s.currentRequest = some .peExchange ∨ s.currentRequest = some .scTickCycle
  | .tick => s.currentRequest = some .waitTick

/-- The invariant of 10_state.md R44, with what it needs to be kept by every step. Its clauses 2 and 3 are
weaker than R44's in the gap between an event and the agent's resumption (log 13, log 14). -/
structure State.Inv (s : State) : Prop where
  /-- the parameters are in the ranges of 00_scope.md R6 -/
  cfg_wf : s.cfg.wf = true
  /-- R44 (1) -/
  idx_le : s.idx.toNat ≤ 16
  /-- R44 (2), the direction that holds between TIMEOUT and the resumption too (log 13) -/
  rx_window : s.rxEn = true → s.hold = .window
  /-- R44 (3), with the device awake between SETTLED and SD_INIT's resumption (log 14) -/
  released_down : s.drvActive = false → s.pwr = .poweredDown ∨
    (s.hold = .settle ∧ s.currentRequest = some .sdInit)
  /-- at the settling wait the device is waking, or SETTLED has just come -/
  settling : s.hold = .settle → s.pwr = .waking ∨ s.pwr = .awake
  /-- R44 (4) -/
  cs_low : s.cs = false
  /-- R44 (5) -/
  cursor_lt : s.cursor.toNat < s.cfg.nvmWords
  /-- R44 (6) -/
  base_le : s.sessionBase.toNat ≤ s.cursor.toNat
  /-- R44 (7) -/
  wovf_full : s.wovf = true → s.idx.toNat = 16 ∧ s.df.cmdOverflow = true
  /-- `DF.CMD_ERROR` is set by no rule (10_state.md R37) -/
  cmd_error : s.df.cmdError = false
  /-- the OTP buffer has `OTP_LEN` bytes (10_state.md R30) -/
  otp_len : s.otpBuf.length = s.cfg.otpLen
  /-- `WRITELOG` is in its canonical form -/
  log_wf : s.writeLog.wf = true
  /-- at most one fault is ever recorded (60_exceptions.md R242) -/
  one_fault : s.faults.length ≤ 1
  /-- the hold belongs to the request at `CP` -/
  hold_fits : HoldFits s

/-- A hold's condition has come true and the agent has not yet resumed the request (60_exceptions.md R243). -/
def HoldLifted (s : State) : Prop :=
  match s.hold with
  | .none => False
  | .settle => s.pwr ≠ .waking
  | .window => s.rxEn = false
  | .tick => s.tickPend = true

/-- Where a claim about the block speaks of its registers: at the end of a run, or at a hold (60_exceptions.md
R257). R257 does not say whether a hold counts whose condition has come true and which the agent has not resumed;
that it does not count here is the model's choice (DESIGN CHOICE, log 24; unsafe for claims that rest on it). -/
def State.observed (s : State) : Prop := s.ended = true ∨ (s.hold ≠ .none ∧ ¬ HoldLifted s)

/-- 10_state.md R44 (1) to (7) as it is written, of one state. It is true of every state of a run but those in
which TIMEOUT or SETTLED has just lifted a hold (log 13, log 14). -/
structure State.R44 (s : State) : Prop where
  /-- (1) -/
  buffer : s.idx.toNat ≤ 16
  /-- (2) -/
  window : s.rxEn = true ↔ s.hold = .window
  /-- (3), its first half -/
  released : s.drvActive = false → s.pwr = .poweredDown ∨ s.pwr = .waking
  /-- (3), its second half -/
  released_waking : s.pwr = .waking → s.drvActive = false → s.hold = .settle ∧ s.currentRequest = some .sdInit
  /-- (4) -/
  cs_low : s.cs = false
  /-- (5) -/
  cursor : s.cursor.toNat < s.cfg.nvmWords
  /-- (6) -/
  base : s.sessionBase.toNat ≤ s.cursor.toNat
  /-- (7) -/
  overflow : s.wovf = true → s.idx.toNat = 16 ∧ s.df.cmdOverflow = true

end Sys2Proof.Machine
end

