-- ==== Sys2Proof/Certificates/Slice0/Obligations.lean ====
section
/-! DEFINITION. The statements for the provers. Each is about every state, with every list of inputs the
environment may hold and every free value. `Sys2Proof.Claims` is the vocabulary they share. -/

namespace Sys2Proof.Claims

open Sys2Proof.Machine

/-- `ReadyForBus()` (40_store_driver.md R140). -/
abbrev ReadyAt (s : State) : Prop := s.drvActive = true ∧ (s.pwr = .awake ∨ s.pwr = .busy)

/-- `IsBusy(b1)` (00_scope.md R10). -/
abbrev BusyBit (s : State) (b1 : Byte) : Prop := b1.getLsbD s.cfg.srBusyBit = true

/-- `IsProtected(b1, b2)` (00_scope.md R10). -/
abbrev ProtectedBy (s : State) (b1 b2 : Byte) : Prop :=
  b1 &&& s.cfg.sr1ProtMask ≠ 0 ∨ b2 &&& s.cfg.sr2ProtMask ≠ 0

/-- `ValidTS()` (00_scope.md R10): cells 1 to 14 are `'0'` to `'9'`. -/
abbrev DigitsInBuffer (s : State) : Prop :=
  ∀ k : Fin 16, 1 ≤ k.val → k.val ≤ 14 → 0x30#8 ≤ s.buf[k.val] ∧ s.buf[k.val] ≤ 0x39#8

/-- The request completes: it returns `r` (10_state.md R22, R42) and leaves `t` otherwise. -/
def Returns (i : Instr) (s : State) (r : Result) (t : State) : Prop :=
  exec i s = .next { t with resTrace := t.resTrace ++ [r], cp := t.cp + 1 }

/-- The state after one bus transaction (20_memory.md R64): the trace, chip select low, draws taken. -/
abbrev afterTxn (s : State) (cmd : BusCmd) (o : BusOutcome) (reply : Reply) (e : Env) : State :=
  { s with cs := false, busTrace := s.busTrace ++ [.txn cmd o reply], env := e }

/-- The state after the pair RDSR1, RDSR2. -/
abbrev afterStatus (s : State) (o1 : BusOutcome) (b1 : Byte) (o2 : BusOutcome) (b2 : Byte) (e : Env) : State :=
  afterTxn (afterTxn s .rdsr1 o1 (.byte b1) e) .rdsr2 o2 (.byte b2) e

/-- The outcome and the reply of one status read (20_memory.md R68, R70). -/
def drawPair (e : Env) : (BusOutcome × Byte) × Env :=
  ((e.drawOutcome.1, e.drawOutcome.2.drawStatus.1), e.drawOutcome.2.drawStatus.2)

/-- `OK` or `BusError`. -/
abbrev okOrBusError (o : BusOutcome) : ResultCode := if o = .ok then .ok else .busError

/-- The cache filled by a successful status read (40_store_driver.md R145). -/
abbrev withStatus (s : State) (b1 b2 : Byte) : State :=
  { s with
    sr1c := b1
    sr2c := b2
    srValid := true
    pwr := if b1.getLsbD s.cfg.srBusyBit = true then .busy else .awake }

/-- The window opened (41_protocol_engine.md R183): buffer cleared, receive enabled, sentinel sent, held. -/
abbrev windowOpened (s : State) : State :=
  { s with idx := 0, wovf := false, rxEn := true, hold := .window, txTrace := s.txTrace ++ [.byte 0x58#8] }

/-- What a dump leaves (41_protocol_engine.md R186): one READ and one word sent per address of the session
range in ascending order, a known word sent as it was written, `DF.MEM_ERROR` set iff a read failed, and
nothing else changed but draws taken and chip select low. -/
def DumpSends (s t : State) : Prop :=
  ∃ rs : List (BusOutcome × Word),
    rs.length = s.cursor.toNat - s.sessionBase.toNat ∧
    (∀ (k : Nat) (h : k < rs.length) (v : Word), rs[k].1 = .ok →
      s.writeLog.entries (s.sessionBase.toNat + k) = [.wrote v] → rs[k].2 = v) ∧
    t = { s with
      txTrace := s.txTrace ++ rs.map fun r => .word r.2
      busTrace := s.busTrace ++ rs.mapIdx fun k r =>
        .txn (.read (s.sessionBase + BitVec.ofNat 16 k)) r.1 (.word r.2)
      df := { s.df with memError := s.df.memError || rs.any fun r => decide (r.1 = .err) }
      cs := false
      env := t.env }

/-- What the dispatch of a just closed window leaves, before its container goes on (41_protocol_engine.md R183,
R185, R186; 42_session_controller.md R211, R212): the hold released, the buffer cleared, and the frame's command
done. -/
def WindowDispatched (s u : State) : Prop :=
  let cleared := { s with hold := .none, idx := 0, wovf := false }
  let quiet := quiesceBody { s with hold := .none }
  let frame := s.idx ≠ 0 ∧ (s.cfg.ovfDiscardScope = .window → s.wovf = false) ∧
    (s.cfg.ovfDiscardScope = .sticky → s.df.cmdOverflow = false)
  (¬ frame ∧ u = cleared) ∨
  (frame ∧ s.buf[0] = 0x44#8 ∧ quiet.1 ≠ .ok ∧
    u = { quiet.2 with idx := 0, wovf := false, df := { quiet.2.df with memError := true } }) ∨
  (frame ∧ s.buf[0] = 0x44#8 ∧ quiet.1 = .ok ∧ ∃ t, DumpSends quiet.2 t ∧ u = { t with idx := 0, wovf := false }) ∨
  (frame ∧ s.buf[0] = 0x42#8 ∧ DigitsInBuffer s ∧ s.df.logging = false ∧
    u = { cleared with df := { s.df with logging := true }, sessionBase := s.cursor }) ∨
  (frame ∧ s.buf[0] = 0x45#8 ∧ DigitsInBuffer s ∧ s.df.logging = true ∧
    u = { cleared with df := { s.df with logging := false } }) ∨
  (frame ∧ (s.buf[0] = 0x42#8 ∧ s.df.logging = true ∨ s.buf[0] = 0x45#8 ∧ s.df.logging = false ∨
      s.buf[0] ≠ 0x44#8 ∧ ¬ DigitsInBuffer s ∨ s.buf[0] ≠ 0x44#8 ∧ s.buf[0] ≠ 0x42#8 ∧ s.buf[0] ≠ 0x45#8) ∧
    u = cleared)

/-- The end of a tick cycle from `u` on, the instruction `i` having been started in `s` (42_session_controller.md
R215): a quiesce; when it answers OK, whatever it took, UDPD, and `DF.MEM_ERROR` on a bus error; when it does not,
`DF.MEM_ERROR` unless the driver is released. -/
def QuiescedAndDown (i : Instr) (s u : State) : Prop :=
  (∀ t o e, quiesceBody u = (.ok, t) → t.env.drawOutcome = (o, e) →
    Returns i s (.code .ok)
      { afterTxn t .udpd o .none e with
        pwr := .poweredDown
        srValid := false
        df := { t.df with memError := t.df.memError || decide (o = .err) } }) ∧
  (∀ q t, quiesceBody u = (q, t) → q ≠ .ok →
    Returns i s (.code .ok) (if u.drvActive = true then { t with df := { t.df with memError := true } } else t))

/-- What follows the dispatch of a tick cycle's window (42_session_controller.md R215): the sample where it comes
second, with its fault, then the end. -/
def TickCycleGoesOn (i : Instr) (s u : State) : Prop :=
  (u.cfg.tickOrder = .sampleFirst ∨ u.df.logging = false → QuiescedAndDown i s u) ∧
  (u.cfg.tickOrder = .exchangeFirst →
    (∀ t, sampleBody u = .done () t → QuiescedAndDown i s t) ∧
    (∀ t, sampleBody u = .faulted t → exec i s = .next t))

/-- The requests of opcode_table.json as (match, mask), in its order: a request word `w` is a row's iff
`w & mask = match` (30_encoding.md R103). -/
def requestRows : List (ReqWord × ReqWord) :=
  [(0x0100000000, 0xFFFFFFFFFF), (0x0200000000, 0xFFFFFFFFFF), (0x0300000000, 0xFF00000000),
   (0x0400000000, 0xFF0000FFFF), (0x0500000000, 0xFFFFFFFFFF), (0x0600000000, 0xFFFFFFFFFF),
   (0x0700000000, 0xFFFFFFFFFF), (0x0800000000, 0xFFFFFFFF00), (0x0900000000, 0xFFFFFFFFFF),
   (0x0A00000000, 0xFFFFFFFFFF), (0x0B00000000, 0xFFFFFFFFFF), (0x0C00000000, 0xFFFFFF0000),
   (0x0D00000000, 0xFFFFFFFFFF)] ++
  [(0x0E00000000, 0xFFFFFFFFFF), (0x2000000000, 0xFFFFFFFFFF), (0x2100000000, 0xFFFFFFFF00),
   (0x2200000000, 0xFFFFFFFFFF), (0x2300000000, 0xFFFFFFFFFF), (0x2400000000, 0xFFFFFFFFFF),
   (0x4000000000, 0xFFFFFFFFFF), (0x4100000000, 0xFFFFFFFFFF), (0x4200000000, 0xFFFFFFFFFF),
   (0x4300000000, 0xFFFFFFFFFF), (0x4400000000, 0xFFFFFFFFFF), (0x6000000000, 0xFFFFFFFFFF),
   (0x6100000000, 0xFFFFFFFFFF)]

/-- The store driver's requests (30_encoding.md R103, OP 0x01 to 0x0E). -/
def isSdRequest : Instr → Bool
  | .sdInit => true | .sdTerm => true | .sdWrite _ _ => true | .sdRead _ => true
  | .sdRefresh => true | .sdGetSr1 => true | .sdGetSr2 => true | .sdWrSr1 _ => true
  | .sdUdpdEnter => true | .sdUdpdExitBegin => true | .sdLoadOtp => true | .sdLog _ => true
  | .sdReadId => true | .sdPrintId => true | .peClear => false | .peAppend _ => false
  | .peExchange => false | .peDispatch => false | .peDump => false | .scBegin => false
  | .scEnd => false | .scSample => false | .scQuiesce => false | .scTickCycle => false
  | .waitTick => false | .waitSettle => false | .hostD _ => false | .hostB _ _ => false
  | .hostE _ _ => false

/-- The instructions that contain SD_LOG (60_exceptions.md R250); a host command contains it when its
window is a tick cycle's. -/
def mayLog : Instr → Bool
  | .sdInit => false | .sdTerm => false | .sdWrite _ _ => false | .sdRead _ => false
  | .sdRefresh => false | .sdGetSr1 => false | .sdGetSr2 => false | .sdWrSr1 _ => false
  | .sdUdpdEnter => false | .sdUdpdExitBegin => false | .sdLoadOtp => false | .sdLog _ => true
  | .sdReadId => false | .sdPrintId => false | .peClear => false | .peAppend _ => false
  | .peExchange => false | .peDispatch => false | .peDump => false | .scBegin => false
  | .scEnd => false | .scSample => true | .scQuiesce => false | .scTickCycle => true
  | .waitTick => false | .waitSettle => false | .hostD _ => true | .hostB _ _ => true
  | .hostE _ _ => true

/-- The bus transactions of a trace, without the wake triggers. -/
def transactions (tr : List BusEvent) : List BusEvent := tr.filter (· ≠ .wake)

end Sys2Proof.Claims

open Sys2Proof Sys2Proof.Machine Sys2Proof.Claims

/-! ### Encoding -/

/-- Decoding an encoded well-formed instruction gives it back, with every operand at every value its
encoding admits (30_encoding.md R101 to R108). -/
def Obligations.DecodeEncodeAgree : Prop :=
  ∀ i : Instr, i.wf = true → decode (encode i) = .ok i

/-- A word or frame that decodes is the encoding of what it decodes to, and that is well formed: no two
codes spell one instruction and no bit is ignored by the decoder. -/
def Obligations.DecodedCodeIsTheEncoding : Prop :=
  ∀ (c : Code) (i : Instr), decode c = .ok i → encode i = c ∧ i.wf = true

/-- 30_encoding.md R103: a request word spells a request exactly when it matches a row of the table. -/
def Obligations.RequestWordsAreTheTableRows : Prop :=
  ∀ w : ReqWord, (decodeRequest w).toOption.isSome = true ↔ ∃ r ∈ requestRows, w &&& r.2 = r.1

/-- Words of 95_test_vectors.md V60 to V68 and S1 to S5, and host frames of S1 and S2, decode to what the
spec says they are. -/
def Obligations.SpecWordsDecode : Prop :=
  decodeRequest 0x0100000000#40 = .ok .sdInit ∧
  decodeRequest 0x030010BEEF#40 = .ok (.sdWrite 0x0010 0xBEEF) ∧
  decodeRequest 0x080000000C#40 = .ok (.sdWrSr1 0x0C) ∧
  decodeRequest 0x2100000042#40 = .ok (.peAppend 0x42) ∧
  decodeRequest 0x0400000000#40 = .ok (.sdRead 0x0000) ∧
  decodeRequest 0x0C00000001#40 = .ok (.sdLog 0x0001) ∧
  decodeRequest 0x4400000000#40 = .ok .scTickCycle ∧
  decodeRequest 0x6000000000#40 = .ok .waitTick ∧
  decodeRequest 0x0F00000000#40 = .error .unassignedOp ∧
  decodeRequest 0x0100000001#40 = .error .reservedField ∧
  decodeRequest 0x2100000142#40 = .error .reservedField ∧
  decodeRequest 0x0400000005#40 = .error .reservedField ∧
  decodeFrame [0x42, 0x32, 0x30, 0x32, 0x33, 0x30, 0x31, 0x30, 0x31, 0x30, 0x30, 0x30, 0x30, 0x30, 0x30, 0x5A] =
    .ok (.hostB [0x32, 0x30, 0x32, 0x33, 0x30, 0x31, 0x30, 0x31, 0x30, 0x30, 0x30, 0x30, 0x30, 0x30] 0x5A) ∧
  decodeFrame (0x44 :: List.replicate 15 0x58) = .ok (.hostD (List.replicate 15 0x58))

/-! ### The step -/

/-- When the agent moves next, nothing has stopped it, and the word at `CP` decodes to `i`, the step is `exec i`.
Two of its words are the model's choices: that at the end of FW_MAIN the goto is taken in the same step as the next
fetch (`followGoto`, log 12), and that a just closed window which holds a host command is left out, because that
command is an instruction of its own (log 10). -/
def Obligations.StepRunsTheRequestAtCP : Prop :=
  ∀ (s : State) (e : Env) (w : ReqWord) (i : Instr),
    s.env.drawTurn = (.agent, e) → s.faults = [] → s.refused = false →
    ({ s with env := e }.followGoto).fetchWord = some w → decodeRequest w = .ok i →
    (s.hold ≠ .window ∨ s.rxEn = true ∨ s.command = none) →
    step s = exec i { s with env := e }.followGoto

/-- When TIMEOUT has closed the window of PE_EXCHANGE or SC_TICK_CYCLE and dispatch finds a frame it will
execute, the step is `exec` of that host command. That a host command is an instruction of its own here is
the model's choice (log 10). -/
def Obligations.StepRunsTheHostCommand : Prop :=
  ∀ (s : State) (e : Env) (h : Instr),
    s.env.drawTurn = (.agent, e) → s.faults = [] → s.refused = false →
    s.hold = .window → s.rxEn = false →
    (s.currentRequest = some .peExchange ∨ s.currentRequest = some .scTickCycle) →
    s.idx ≠ 0 → overflowDiscards s = false → decodeFrame s.buf.toList = .ok h →
    step s = exec h { s with env := e }

/-- Running a host command where the window closed is the resumption of the request that holds there: the
whole of PE_EXCHANGE's or SC_TICK_CYCLE's rest, dispatch included (41_protocol_engine.md R183, R185; the
model's choice, log 10). -/
def Obligations.HostCommandIsTheDispatch : Prop :=
  ∀ (s : State) (i h : Instr),
    s.hold = .window → s.rxEn = false → s.currentRequest = some i →
    (i = .peExchange ∨ i = .scTickCycle) → s.command = some h →
    exec h s = exec i s

/-- 60_exceptions.md R244, 30_encoding.md R104: a word that spells no request sets `REFUSED`, changes no
register and does not advance `CP`; from then on the agent's turn is refused and the run has not ended. That
the mark is a next state and the refusal comes with the following turn is the model's choice (log 7). -/
def Obligations.BadRequestIsRefused : Prop :=
  ∀ (s : State) (e : Env) (w : ReqWord),
    s.env.drawTurn = (.agent, e) → s.faults = [] → s.program.loopTo = none →
    s.fetchWord = some w → (∀ r ∈ requestRows, w &&& r.2 ≠ r.1) →
    (s.refused = false → step s = .next { s with env := e, refused := true }) ∧
    (s.refused = true → step s = .refused .badRequest ∧ s.ended = false)

/-- 60_exceptions.md R242: once a fault is recorded the agent takes no further step, while events still
occur and change registers as their rules say. That the fault answers the agent's next turn is the model's
choice (log 6). -/
def Obligations.FaultStopsTheAgentNotEvents : Prop :=
  ∀ (s : State) (f : Fault) (fs : List Fault) (e : Env), s.faults = f :: fs →
    (s.env.drawTurn = (.agent, e) → step s = .fault f) ∧
    (∀ ev, s.env.drawTurn = (.event ev, e) →
      ∃ t, step s = .next t ∧ t = applyEvent ev { s with env := e } ∧ t.faults = s.faults)

/-- 41_protocol_engine.md R182, R184, 40_store_driver.md R151, 42_session_controller.md R216: the effect of
each event when it is the environment's turn. -/
def Obligations.EventsDoWhatTheirRulesSay : Prop :=
  ∀ (s : State) (e : Env),
    (∀ c, s.env.drawTurn = (.event (.rx c), e) →
      (s.rxEn = false → step s = .next { s with env := e }) ∧
      (s.rxEn = true → ∀ h : s.idx.toNat < 16,
        step s = .next { s with env := e, buf := s.buf.set s.idx.toNat c h, idx := s.idx + 1 }) ∧
      (s.rxEn = true → 16 ≤ s.idx.toNat →
        step s = .next { s with env := e, wovf := true, df := { s.df with cmdOverflow := true } })) ∧
    (s.env.drawTurn = (.event .tick, e) → step s = .next { s with env := e, tickPend := true }) ∧
    (s.env.drawTurn = (.event .timeout, e) → s.hold = .window →
      step s = .next { s with env := e, rxEn := false }) ∧
    (s.env.drawTurn = (.event .settled, e) → s.pwr = .waking →
      step s = .next { s with env := e, pwr := .awake })

/-- 60_exceptions.md R243: while the condition of a hold is not met, the agent's turn changes nothing (that it
takes a turn at all is the model's choice, log 9). -/
def Obligations.HeldAgentWaits : Prop :=
  ∀ (s : State) (e : Env),
    s.Inv → s.env.drawTurn = (.agent, e) → s.faults = [] → s.refused = false →
    (s.hold = .settle ∧ s.pwr = .waking ∨ s.hold = .window ∧ s.rxEn = true ∨ s.hold = .tick ∧ s.tickPend = false) →
    step s = .next { s with env := e }

/-- 42_session_controller.md R219: after the last line of FW_MAIN the next request is LOOP's, WAIT_TICK, and
no state that runs FW_MAIN has ended (10_state.md R23). That the goto is taken with the next fetch is the
model's choice (log 12). -/
def Obligations.FirmwareLoops : Prop :=
  ∀ (s : State) (e : Env), s.program = .fwMain →
    s.ended = false ∧
    (s.cp = 4 → s.hold = .none → s.env.drawTurn = (.agent, e) → s.faults = [] → s.refused = false →
      step s = exec .waitTick { s with env := e, cp := 2 })

/-! ### Store driver -/

/-- 40_store_driver.md R141: SD_INIT, new and resumed. -/
def Obligations.SdInitResult : Prop :=
  ∀ s : State,
    (s.hold = .none → s.drvActive = true →
      Returns .sdInit s (.code .notReady) { s with violation := true }) ∧
    (s.hold = .none → s.drvActive = false →
      exec .sdInit s = .next { s with
        busTrace := s.busTrace ++ [.wake], cs := false, pwr := .waking, hold := .settle }) ∧
    (s.hold = .settle → s.pwr = .waking → exec .sdInit s = .next s) ∧
    (∀ e, s.hold = .settle → s.pwr ≠ .waking → s.env.drawOutcome = (.ok, e) →
      Returns .sdInit s (.code (if s.cfg.deviceId = s.cfg.expectedId then .ok else .deviceNotFound))
        { afterTxn s .readId .ok (.bytes s.cfg.deviceId) e with
          hold := .none
          drvActive := true
          df := if s.cfg.deviceId = s.cfg.expectedId then s.df else { s.df with memError := true } }) ∧
    (∀ e bs e', s.hold = .settle → s.pwr ≠ .waking → s.env.drawOutcome = (.err, e) →
      Env.drawIdOtps s.cfg.idLen e = (bs, e') →
      Returns .sdInit s (.code .deviceNotFound)
        { afterTxn s .readId .err (.bytes bs) e' with
          hold := .none, drvActive := true, df := { s.df with memError := true } })

/-- 40_store_driver.md R142: SD_TERM. -/
def Obligations.SdTermResult : Prop :=
  ∀ s : State,
    (s.drvActive = false ∨ s.pwr = .waking →
      Returns .sdTerm s (.code .notReady) { s with violation := true }) ∧
    (s.drvActive = true → s.pwr = .busy → Returns .sdTerm s (.code .busBusy) s) ∧
    (∀ o e, s.drvActive = true → s.pwr = .awake → s.env.drawOutcome = (o, e) →
      Returns .sdTerm s (.code (okOrBusError o))
        { afterTxn s .dpd o .none e with pwr := .poweredDown, srValid := false, drvActive := false }) ∧
    (s.drvActive = true → s.pwr = .poweredDown →
      Returns .sdTerm s (.code .ok) { s with srValid := false, drvActive := false })

/-- 40_store_driver.md R143 with the order of 60_exceptions.md R247: SD_WRITE. -/
def Obligations.SdWriteResult : Prop :=
  ∀ (s : State) (a v : Word),
    (¬ ReadyAt s → Returns (.sdWrite a v) s (.code .notReady) { s with violation := true }) ∧
    (ReadyAt s → s.cfg.nvmWords ≤ a.toNat →
      exec (.sdWrite a v) s = .next { s with faults := s.faults ++ [.addrRange a] }) ∧
    (ReadyAt s → a.toNat < s.cfg.nvmWords → ProtectedBy s s.sr1c s.sr2c →
      Returns (.sdWrite a v) s (.code .writeProtected) s) ∧
    (ReadyAt s → a.toNat < s.cfg.nvmWords → ¬ ProtectedBy s s.sr1c s.sr2c → s.pwr = .busy →
      Returns (.sdWrite a v) s (.code .busBusy) s) ∧
    (∀ o e, s.drvActive = true → a.toNat < s.cfg.nvmWords → ¬ ProtectedBy s s.sr1c s.sr2c → s.pwr = .awake →
      s.env.drawOutcome = (o, e) →
      Returns (.sdWrite a v) s (.code (okOrBusError o))
        { afterTxn s (.write a v) o .none e with
          srValid := false
          pwr := .busy
          writeLog := s.writeLog.push a.toNat (if o = .ok then .wrote v else .failed) })

/-- 40_store_driver.md R144 with the device contract of 20_memory.md R66: SD_READ. -/
def Obligations.SdReadResult : Prop :=
  ∀ (s : State) (a : Word),
    (¬ ReadyAt s → Returns (.sdRead a) s (.code .notReady) { s with violation := true }) ∧
    (ReadyAt s → s.cfg.nvmWords ≤ a.toNat →
      exec (.sdRead a) s = .next { s with faults := s.faults ++ [.addrRange a] }) ∧
    (ReadyAt s → a.toNat < s.cfg.nvmWords → s.pwr = .busy → Returns (.sdRead a) s (.code .busBusy) s) ∧
    (∀ e v, s.drvActive = true → a.toNat < s.cfg.nvmWords → s.pwr = .awake → s.env.drawOutcome = (.ok, e) →
      s.writeLog.entries a.toNat = [.wrote v] →
      Returns (.sdRead a) s (.word .ok v) (afterTxn s (.read a) .ok (.word v) e)) ∧
    (∀ o e w e', s.drvActive = true → a.toNat < s.cfg.nvmWords → s.pwr = .awake →
      s.env.drawOutcome = (o, e) → (o = .err ∨ ∀ v, s.writeLog.entries a.toNat ≠ [.wrote v]) →
      e.drawWord = (w, e') →
      Returns (.sdRead a) s (.word (okOrBusError o) w) (afterTxn s (.read a) o (.word w) e'))

/-- 40_store_driver.md R145: SD_REFRESH. -/
def Obligations.SdRefreshResult : Prop :=
  ∀ s : State,
    (¬ ReadyAt s → Returns .sdRefresh s (.code .notReady) { s with violation := true }) ∧
    (∀ o1 b1 e1 o2 b2 e2, ReadyAt s → drawPair s.env = ((o1, b1), e1) → drawPair e1 = ((o2, b2), e2) →
      ((o1 = .err ∨ o2 = .err) →
        Returns .sdRefresh s (.code .busError) { afterStatus s o1 b1 o2 b2 e2 with srValid := false }) ∧
      (o1 = .ok → o2 = .ok →
        Returns .sdRefresh s (.code .ok) (withStatus (afterStatus s o1 b1 o2 b2 e2) b1 b2)))

/-- 40_store_driver.md R146, R147: SD_GETSR1 and SD_GETSR2 return the cached bytes in every state, valid or
not, and leave everything else. -/
def Obligations.CacheReadsReturnTheCache : Prop :=
  ∀ s : State, Returns .sdGetSr1 s (.byte .ok s.sr1c) s ∧ Returns .sdGetSr2 s (.byte .ok s.sr2c) s

/-- 40_store_driver.md R148: SD_WRSR1. -/
def Obligations.SdWrSr1Result : Prop :=
  ∀ (s : State) (v : Byte),
    (¬ ReadyAt s → Returns (.sdWrSr1 v) s (.code .notReady) { s with violation := true }) ∧
    (s.drvActive = true → s.pwr = .busy → Returns (.sdWrSr1 v) s (.code .busBusy) s) ∧
    (∀ o e, s.drvActive = true → s.pwr = .awake → s.env.drawOutcome = (o, e) →
      Returns (.sdWrSr1 v) s (.code (okOrBusError o))
        { afterTxn s (.wrsr1 v) o .none e with srValid := false, pwr := .busy })

/-- 40_store_driver.md R149, R150: SD_UDPD_ENTER and SD_UDPD_EXIT_BEGIN. -/
def Obligations.PowerDownAndWakeResults : Prop :=
  ∀ s : State,
    (¬ ReadyAt s → Returns .sdUdpdEnter s (.code .notReady) { s with violation := true }) ∧
    (s.drvActive = true → s.pwr = .busy → Returns .sdUdpdEnter s (.code .busBusy) s) ∧
    (∀ o e, s.drvActive = true → s.pwr = .awake → s.env.drawOutcome = (o, e) →
      Returns .sdUdpdEnter s (.code (okOrBusError o))
        { afterTxn s .udpd o .none e with pwr := .poweredDown, srValid := false }) ∧
    (s.drvActive = false → Returns .sdUdpdExitBegin s (.code .notReady) { s with violation := true }) ∧
    (s.drvActive = true → s.pwr = .poweredDown →
      Returns .sdUdpdExitBegin s (.code .ok)
        { s with busTrace := s.busTrace ++ [.wake], cs := false, pwr := .waking }) ∧
    (s.drvActive = true → s.pwr ≠ .poweredDown → Returns .sdUdpdExitBegin s (.code .ok) s)

/-- 40_store_driver.md R152, R153: SD_LOG. -/
def Obligations.SdLogResult : Prop :=
  ∀ (s : State) (v : Word),
    (¬ ReadyAt s → Returns (.sdLog v) s (.logFlags 0x08) { s with violation := true }) ∧
    (∀ o1 b1 e1 o2 b2 e2, ReadyAt s → drawPair s.env = ((o1, b1), e1) → drawPair e1 = ((o2, b2), e2) →
      ((o1 = .err ∨ o2 = .err) →
        Returns (.sdLog v) s (.logFlags 0x04) { afterStatus s o1 b1 o2 b2 e2 with srValid := false }) ∧
      (o1 = .ok → o2 = .ok → (BusyBit s b1 ∨ ProtectedBy s b1 b2) →
        Returns (.sdLog v) s
          (.logFlags ((if BusyBit s b1 then 0x01 else 0x00) ||| (if ProtectedBy s b1 b2 then 0x02 else 0x00)))
          (withStatus (afterStatus s o1 b1 o2 b2 e2) b1 b2)) ∧
      (∀ o e3, o1 = .ok → o2 = .ok → ¬ BusyBit s b1 → ¬ ProtectedBy s b1 b2 → e2.drawOutcome = (o, e3) →
        (s.cursor.toNat + 1 ≠ s.cfg.nvmWords →
          Returns (.sdLog v) s (.logFlags (if o = .ok then 0x00 else 0x04))
            { afterTxn (withStatus (afterStatus s o1 b1 o2 b2 e2) b1 b2) (.write s.cursor v) o .none e3 with
              srValid := false
              pwr := .busy
              writeLog := s.writeLog.push s.cursor.toNat (if o = .ok then .wrote v else .failed)
              cursor := s.cursor + 1 }) ∧
        (s.cursor.toNat + 1 = s.cfg.nvmWords →
          exec (.sdLog v) s = .next
            { afterTxn (withStatus (afterStatus s o1 b1 o2 b2 e2) b1 b2) (.write s.cursor v) o .none e3 with
              srValid := false
              pwr := .busy
              writeLog := s.writeLog.push s.cursor.toNat (if o = .ok then .wrote v else .failed)
              faults := s.faults ++ [.storeExhausted s.cursor] })))

/-- 40_store_driver.md R154: SD_LOAD_OTP. -/
def Obligations.SdLoadOtpResult : Prop :=
  ∀ s : State,
    (¬ ReadyAt s → Returns .sdLoadOtp s (.code .notReady) { s with violation := true }) ∧
    (s.drvActive = true → s.pwr = .busy → Returns .sdLoadOtp s (.code .busBusy) s) ∧
    (∀ e, s.drvActive = true → s.pwr = .awake → s.env.drawOutcome = (.ok, e) →
      Returns .sdLoadOtp s (.code .ok)
        { afterTxn s .otpRead .ok (.bytes s.cfg.otpContent) e with otpBuf := s.cfg.otpContent, otpValid := true }) ∧
    (∀ e bs e', s.drvActive = true → s.pwr = .awake → s.env.drawOutcome = (.err, e) →
      Env.drawIdOtps s.cfg.otpLen e = (bs, e') →
      Returns .sdLoadOtp s (.code .busError) (afterTxn s .otpRead .err (.bytes bs) e'))

/-- 40_store_driver.md R155, R156: SD_READ_ID and SD_PRINT_ID. -/
def Obligations.IdentificationResults : Prop :=
  ∀ s : State,
    (¬ ReadyAt s → Returns .sdReadId s (.code .notReady) { s with violation := true } ∧
      Returns .sdPrintId s (.code .notReady) { s with violation := true }) ∧
    (s.drvActive = true → s.pwr = .busy →
      Returns .sdReadId s (.code .busBusy) s ∧ Returns .sdPrintId s (.code .busBusy) s) ∧
    (∀ e, s.drvActive = true → s.pwr = .awake → s.env.drawOutcome = (.ok, e) →
      Returns .sdReadId s (.bytes .ok s.cfg.deviceId) (afterTxn s .readId .ok (.bytes s.cfg.deviceId) e) ∧
      Returns .sdPrintId s (.code .ok)
        { afterTxn s .readId .ok (.bytes s.cfg.deviceId) e with txTrace := s.txTrace ++ [.diag s.cfg.deviceId] }) ∧
    (∀ e bs e', s.drvActive = true → s.pwr = .awake → s.env.drawOutcome = (.err, e) →
      Env.drawIdOtps s.cfg.idLen e = (bs, e') →
      Returns .sdReadId s (.bytes .busError bs) (afterTxn s .readId .err (.bytes bs) e') ∧
      Returns .sdPrintId s (.code .busError) (afterTxn s .readId .err (.bytes bs) e'))

/-! ### Protocol engine -/

/-- 41_protocol_engine.md R180, R181: PE_CLEAR and PE_APPEND. -/
def Obligations.BufferRequestResults : Prop :=
  ∀ (s : State) (c : Byte),
    Returns .peClear s (.code .ok) { s with idx := 0, wovf := false } ∧
    (∀ h : s.idx.toNat < 16,
      Returns (.peAppend c) s (.code .ok) { s with buf := s.buf.set s.idx.toNat c h, idx := s.idx + 1 }) ∧
    (16 ≤ s.idx.toNat →
      Returns (.peAppend c) s (.code .ok) { s with wovf := true, df := { s.df with cmdOverflow := true } })

/-- 41_protocol_engine.md R183: PE_EXCHANGE opens its window and holds, waits while it is open, and when it
is closed does what PE_DISPATCH does. -/
def Obligations.PeExchangeResult : Prop :=
  ∀ s : State,
    (s.hold = .none → exec .peExchange s = .next (windowOpened s)) ∧
    (s.hold = .window → s.rxEn = true → exec .peExchange s = .next s) ∧
    (s.hold = .window → s.rxEn = false → exec .peExchange s = exec .peDispatch { s with hold := .none }) ∧
    (s.hold = .window → s.rxEn = false → s.idx = 0 →
      Returns .peExchange s (.code .ok) { s with hold := .none, idx := 0, wovf := false })

/-- 41_protocol_engine.md R185: PE_DISPATCH. -/
def Obligations.PeDispatchResult : Prop :=
  ∀ s : State,
    (s.idx = 0 → Returns .peDispatch s (.code .ok) { s with idx := 0, wovf := false }) ∧
    ((s.cfg.ovfDiscardScope = .window ∧ s.wovf = true ∨ s.cfg.ovfDiscardScope = .sticky ∧ s.df.cmdOverflow = true) →
      Returns .peDispatch s (.code .ok) { s with idx := 0, wovf := false }) ∧
    (s.idx ≠ 0 → (s.cfg.ovfDiscardScope = .window → s.wovf = false) →
      (s.cfg.ovfDiscardScope = .sticky → s.df.cmdOverflow = false) →
      (s.buf[0] = 0x44#8 → s.drvActive = true → s.pwr = .awake → s.cs = false →
        s.cursor.toNat < s.cfg.nvmWords →
        ∃ t, DumpSends s t ∧ Returns .peDispatch s (.code .ok) { t with idx := 0, wovf := false }) ∧
      (s.buf[0] = 0x44#8 → (quiesceBody s).1 ≠ .ok →
        Returns .peDispatch s (.code .ok)
          { (quiesceBody s).2 with
            idx := 0, wovf := false, df := { (quiesceBody s).2.df with memError := true } }) ∧
      (s.buf[0] = 0x44#8 → (quiesceBody s).1 = .ok → exec .peDispatch s = exec .peDispatch (quiesceBody s).2) ∧
      (s.buf[0] = 0x42#8 → DigitsInBuffer s → s.df.logging = false →
        Returns .peDispatch s (.code .ok)
          { s with idx := 0, wovf := false, df := { s.df with logging := true }, sessionBase := s.cursor }) ∧
      (s.buf[0] = 0x45#8 → DigitsInBuffer s → s.df.logging = true →
        Returns .peDispatch s (.code .ok)
          { s with idx := 0, wovf := false, df := { s.df with logging := false } }) ∧
      ((s.buf[0] = 0x42#8 ∧ s.df.logging = true ∨ s.buf[0] = 0x45#8 ∧ s.df.logging = false ∨
          s.buf[0] ≠ 0x44#8 ∧ ¬ DigitsInBuffer s ∨ s.buf[0] ≠ 0x44#8 ∧ s.buf[0] ≠ 0x42#8 ∧ s.buf[0] ≠ 0x45#8) →
        Returns .peDispatch s (.code .ok) { s with idx := 0, wovf := false }))

/-- 41_protocol_engine.md R186: PE_DUMP on an awake device sends one word per address of the session range,
in ascending order; a device that cannot be quieted sets `DF.MEM_ERROR` and nothing is sent. -/
def Obligations.PeDumpResult : Prop :=
  ∀ s : State,
    (s.drvActive = true → s.pwr = .awake → s.cs = false → s.cursor.toNat < s.cfg.nvmWords →
      ∃ t, DumpSends s t ∧ Returns .peDump s (.code .ok) t) ∧
    ((quiesceBody s).1 ≠ .ok →
      Returns .peDump s (.code .ok)
        { (quiesceBody s).2 with df := { (quiesceBody s).2.df with memError := true } }) ∧
    ((quiesceBody s).1 = .ok → exec .peDump s = exec .peDump (quiesceBody s).2)

/-! ### Session controller -/

/-- 42_session_controller.md R211, R212: SC_BEGIN and SC_END. -/
def Obligations.SessionTransitions : Prop :=
  ∀ s : State,
    (DigitsInBuffer s → s.df.logging = false →
      Returns .scBegin s (.code .ok) { s with df := { s.df with logging := true }, sessionBase := s.cursor }) ∧
    ((¬ DigitsInBuffer s ∨ s.df.logging = true) → Returns .scBegin s (.code .ok) s) ∧
    (DigitsInBuffer s → s.df.logging = true →
      Returns .scEnd s (.code .ok) { s with df := { s.df with logging := false } }) ∧
    ((¬ DigitsInBuffer s ∨ s.df.logging = false) → Returns .scEnd s (.code .ok) s)

/-- 42_session_controller.md R213: SC_SAMPLE takes a reading and calls SD_LOG exactly while Logging, also
when the sensor reports failure. -/
def Obligations.ScSampleResult : Prop :=
  ∀ s : State,
    (s.df.logging = false → Returns .scSample s (.code .ok) s) ∧
    (∀ v ok e, s.df.logging = true → s.env.drawSensor = ((v, ok), e) →
      (¬ ReadyAt s → Returns .scSample s (.code .ok)
        { s with
          env := e
          violation := true
          df := { s.df with memError := true, tempError := s.df.tempError || !ok } }) ∧
      (∀ o1 b1 e1 o2 b2 e2 o e3, ReadyAt s → drawPair e = ((o1, b1), e1) → drawPair e1 = ((o2, b2), e2) →
        o1 = .ok → o2 = .ok → ¬ BusyBit s b1 → ¬ ProtectedBy s b1 b2 → e2.drawOutcome = (o, e3) →
        s.cursor.toNat + 1 ≠ s.cfg.nvmWords →
        Returns .scSample s (.code .ok)
          { afterTxn (withStatus (afterStatus s .ok b1 .ok b2 e2) b1 b2) (.write s.cursor v) o .none e3 with
            srValid := false
            pwr := .busy
            writeLog := s.writeLog.push s.cursor.toNat (if o = .ok then .wrote v else .failed)
            cursor := s.cursor + 1
            df := { s.df with
              tempError := s.df.tempError || !ok
              memError := s.df.memError || decide (o = .err) } }) ∧
      (∀ f t, logBody v { s with env := e, df := { s.df with tempError := s.df.tempError || !ok } } = .done f t →
        Returns .scSample s (.code .ok) { t with df := { t.df with memError := t.df.memError || decide (f ≠ 0) } }) ∧
      (∀ t, logBody v { s with env := e, df := { s.df with tempError := s.df.tempError || !ok } } = .faulted t →
        exec .scSample s = .next t))

/-- 42_session_controller.md R214: SC_QUIESCE refreshes while the device is busy, at most
`BUSY_POLL_LIMIT` times, and otherwise issues no traffic and sets no violation. -/
def Obligations.ScQuiesceResult : Prop :=
  ∀ s : State,
    (s.drvActive = true → s.pwr = .awake → Returns .scQuiesce s (.code .ok) s) ∧
    (s.pwr = .poweredDown ∨ s.pwr = .waking ∨ s.drvActive = false ∧ s.pwr = .awake →
      Returns .scQuiesce s (.code .notReady) s) ∧
    (s.drvActive = true → s.pwr = .busy →
      ∃ n t, n ≤ s.cfg.busyPollLimit ∧ t = (fun u => (refreshBody u).2)^[n] s ∧
        (∀ k, k < n → ((fun u => (refreshBody u).2)^[k] s).pwr = .busy) ∧
        (t.pwr = .awake ∧ Returns .scQuiesce s (.code .ok) t ∨
          t.pwr = .busy ∧ n = s.cfg.busyPollLimit ∧ Returns .scQuiesce s (.code .busBusy) t))

/-- 42_session_controller.md R215: the beginning of SC_TICK_CYCLE up to its window. -/
def Obligations.TickCycleOpens : Prop :=
  ∀ s : State,
    (s.hold = .none → s.drvActive = true → s.pwr = .poweredDown →
      exec .scTickCycle s = .next { s with
        busTrace := s.busTrace ++ [.wake], cs := false, pwr := .waking, hold := .settle }) ∧
    (s.pwr = .waking → s.hold = .none ∨ s.hold = .settle →
      exec .scTickCycle s = .next { s with hold := .settle }) ∧
    (s.hold = .none ∧ (s.drvActive = false ∨ s.pwr ≠ .poweredDown) ∨ s.hold = .settle → s.pwr ≠ .waking →
      (s.cfg.tickOrder = .exchangeFirst ∨ s.df.logging = false →
        exec .scTickCycle s = .next (windowOpened s)) ∧
      (s.cfg.tickOrder = .sampleFirst →
        (∀ t, sampleBody { s with hold := .none } = .done () t → exec .scTickCycle s = .next (windowOpened t)) ∧
        (∀ t, sampleBody { s with hold := .none } = .faulted t → exec .scTickCycle s = .next t)))

/-- 42_session_controller.md R215: the end of SC_TICK_CYCLE once its window is closed: the dispatch of whatever
the window holds, the sample where it comes second, the quiesce and the power-down. The bodies it is made of are
those of the requests (BodiesAreTheRequests). Its last part gives four cases of an empty window in full: an awake
device, a busy one whose first refresh finds it ready, a released one, and one that stays busy. -/
def Obligations.TickCycleCloses : Prop :=
  ∀ s : State, s.hold = .window →
    (s.rxEn = true → exec .scTickCycle s = .next s) ∧
    (s.rxEn = false → s.cs = false → s.cursor.toNat < s.cfg.nvmWords →
      ∃ u, WindowDispatched s u ∧ TickCycleGoesOn .scTickCycle s u) ∧
    (s.rxEn = false →
      (∀ u, dispatchBody { s with hold := .none } = .done () u → TickCycleGoesOn .scTickCycle s u) ∧
      (∀ u, dispatchBody { s with hold := .none } = .faulted u → exec .scTickCycle s = .next u)) ∧
    (s.rxEn = false → s.idx = 0 → s.cfg.tickOrder = .sampleFirst ∨ s.df.logging = false →
      (∀ o e, s.drvActive = true → s.pwr = .awake → s.env.drawOutcome = (o, e) →
        Returns .scTickCycle s (.code .ok)
          { afterTxn s .udpd o .none e with
            hold := .none
            idx := 0
            wovf := false
            pwr := .poweredDown
            srValid := false
            df := { s.df with memError := s.df.memError || decide (o = .err) } }) ∧
      (∀ b1 e1 b2 e2 o e3, s.drvActive = true → s.pwr = .busy → 0 < s.cfg.busyPollLimit →
        drawPair s.env = ((.ok, b1), e1) → drawPair e1 = ((.ok, b2), e2) → ¬ BusyBit s b1 →
        e2.drawOutcome = (o, e3) →
        Returns .scTickCycle s (.code .ok)
          { afterTxn (withStatus (afterStatus s .ok b1 .ok b2 e2) b1 b2) .udpd o .none e3 with
            hold := .none
            idx := 0
            wovf := false
            pwr := .poweredDown
            srValid := false
            df := { s.df with memError := s.df.memError || decide (o = .err) } }) ∧
      (s.drvActive = false → s.pwr = .poweredDown →
        Returns .scTickCycle s (.code .ok) { s with hold := .none, idx := 0, wovf := false }) ∧
      (∀ t, s.drvActive = true → quiesceBody { s with hold := .none, idx := 0, wovf := false } = (.busBusy, t) →
        Returns .scTickCycle s (.code .ok) { t with df := { t.df with memError := true } }))

/-- 60_exceptions.md R250: a body named in another request's rule is that request without its result and its
advance of `CP`; a fault raised in it stands. This is what the bodies of the statements about SC_TICK_CYCLE and
PE_DUMP mean. -/
def Obligations.BodiesAreTheRequests : Prop :=
  ∀ s : State,
    (∀ t, dispatchBody s = .done () t → Returns .peDispatch s (.code .ok) t) ∧
    (∀ t, dispatchBody s = .faulted t → exec .peDispatch s = .next t) ∧
    (∀ t, sampleBody s = .done () t → Returns .scSample s (.code .ok) t) ∧
    (∀ t, sampleBody s = .faulted t → exec .scSample s = .next t) ∧
    (∀ r t, quiesceBody s = (r, t) → Returns .scQuiesce s (.code r) t)

/-- 42_session_controller.md R217, R218: WAIT_TICK and WAIT_SETTLE. -/
def Obligations.WaitResults : Prop :=
  ∀ s : State,
    (s.hold = .none ∨ s.hold = .tick → s.tickPend = true →
      Returns .waitTick s (.code .ok) { s with tickPend := false, hold := .none }) ∧
    (s.hold = .none ∨ s.hold = .tick → s.tickPend = false → exec .waitTick s = .next { s with hold := .tick }) ∧
    (s.hold = .none ∨ s.hold = .settle → s.pwr = .waking → exec .waitSettle s = .next { s with hold := .settle }) ∧
    (s.hold = .none ∨ s.hold = .settle → s.pwr ≠ .waking →
      Returns .waitSettle s (.code .ok) { s with hold := .none })

/-! ### Host commands -/

/-- 30_encoding.md R106, 42_session_controller.md R211, R212: `B` and `E` at the close of PE_EXCHANGE's
window, whatever byte 15 is (as an instruction, the model's choice, log 10). -/
def Obligations.HostBeginAndEndResults : Prop :=
  ∀ (s : State) (ts : List Byte) (f : Byte),
    s.currentRequest = some .peExchange → ts.length = 14 →
    ((∀ c ∈ ts, 0x30#8 ≤ c ∧ c ≤ 0x39#8) → s.df.logging = false →
      Returns (.hostB ts f) s (.code .ok)
        { s with
          hold := .none
          idx := 0
          wovf := false
          df := { s.df with logging := true }
          sessionBase := s.cursor }) ∧
    ((∀ c ∈ ts, 0x30#8 ≤ c ∧ c ≤ 0x39#8) → s.df.logging = true →
      Returns (.hostE ts f) s (.code .ok)
        { s with hold := .none, idx := 0, wovf := false, df := { s.df with logging := false } }) ∧
    (((∃ c ∈ ts, c < 0x30#8 ∨ 0x39#8 < c) ∨ s.df.logging = true) →
      Returns (.hostB ts f) s (.code .ok) { s with hold := .none, idx := 0, wovf := false }) ∧
    (((∃ c ∈ ts, c < 0x30#8 ∨ 0x39#8 < c) ∨ s.df.logging = false) →
      Returns (.hostE ts f) s (.code .ok) { s with hold := .none, idx := 0, wovf := false })

/-- 30_encoding.md R106, R112: `D` at the close of PE_EXCHANGE's window, on an awake device, sends the
session's words; with the device powered down it sets `DF.MEM_ERROR` and sends nothing (as an instruction,
the model's choice, log 10). -/
def Obligations.HostDumpResult : Prop :=
  ∀ (s : State) (rest : List Byte), s.currentRequest = some .peExchange →
    (s.drvActive = true → s.pwr = .awake → s.cs = false → s.cursor.toNat < s.cfg.nvmWords →
      ∃ t, DumpSends { s with hold := .none } t ∧
        Returns (.hostD rest) s (.code .ok) { t with idx := 0, wovf := false }) ∧
    (s.pwr = .poweredDown →
      Returns (.hostD rest) s (.code .ok)
        { s with hold := .none, idx := 0, wovf := false, df := { s.df with memError := true } })

/-- 30_encoding.md R106, 42_session_controller.md R211, R212, R215, 41_protocol_engine.md R186: `D`, `B` and `E`
at the close of SC_TICK_CYCLE's window, the only one FW_MAIN opens: the command's effect, and then the rest of the
cycle; a `B` in EXCHANGE_FIRST is followed by that cycle's sample (as instructions, the model's choice, log 10). -/
def Obligations.HostCommandsInATickCycle : Prop :=
  ∀ (s : State) (ts rest : List Byte) (f : Byte),
    s.hold = .window → s.currentRequest = some .scTickCycle → ts.length = 14 →
    let cleared := { s with hold := .none, idx := 0, wovf := false }
    let quiet := quiesceBody { s with hold := .none }
    ((∀ c ∈ ts, 0x30#8 ≤ c ∧ c ≤ 0x39#8) →
      (s.df.logging = false → TickCycleGoesOn (.hostB ts f) s
        { cleared with df := { s.df with logging := true }, sessionBase := s.cursor }) ∧
      (s.df.logging = true → TickCycleGoesOn (.hostE ts f) s
        { cleared with df := { s.df with logging := false } })) ∧
    (((∃ c ∈ ts, c < 0x30#8 ∨ 0x39#8 < c) ∨ s.df.logging = true) → TickCycleGoesOn (.hostB ts f) s cleared) ∧
    (((∃ c ∈ ts, c < 0x30#8 ∨ 0x39#8 < c) ∨ s.df.logging = false) → TickCycleGoesOn (.hostE ts f) s cleared) ∧
    (quiet.1 ≠ .ok → TickCycleGoesOn (.hostD rest) s
      { quiet.2 with idx := 0, wovf := false, df := { quiet.2.df with memError := true } }) ∧
    (quiet.1 = .ok → s.cs = false → s.cursor.toNat < s.cfg.nvmWords →
      ∃ t, DumpSends quiet.2 t ∧ TickCycleGoesOn (.hostD rest) s { t with idx := 0, wovf := false })

/-! ### Reset -/

/-- 70_reset_and_hazards.md R281, R282: every register the spec gives a reset value has it, for all
parameters and all reset draws, and `CP` is 0 in FW_MAIN. -/
def Obligations.ResetValues : Prop :=
  ∀ (p : Params) (d : ResetDraws),
    let s := State.resetWith p d
    s.drvActive = false ∧ s.pwr = .poweredDown ∧ s.srValid = false ∧ s.cursor = p.cursorInit ∧
    s.otpValid = false ∧ s.violation = false ∧ s.cs = false ∧ s.idx = 0 ∧ s.wovf = false ∧ s.rxEn = false ∧
    s.df.toByte = 0x00 ∧ s.sessionBase = p.cursorInit ∧ s.tickPend = false ∧ s.hold = .none ∧ s.cp = 0 ∧
    s.faults = [] ∧ s.refused = false ∧ s.busTrace = [] ∧ s.txTrace = [] ∧ s.resTrace = [] ∧
    (∀ a, s.writeLog.entries a = []) ∧
    s.program.words = [0x0100000000#40, 0x0900000000#40, 0x6000000000#40, 0x4400000000#40] ∧
    s.program.loopTo = some 2

/-- The invariant holds after reset, and 10_state.md R44 (1) to (7) as it is written, for all parameters in range
and all reset draws of `OTP_LEN` bytes. -/
def Obligations.ResetMeetsTheInvariant : Prop :=
  ∀ (p : Params) (d : ResetDraws), p.wf = true → d.otpBuf.length = p.otpLen →
    (State.resetWith p d).Inv ∧ (State.resetWith p d).R44

/-! ### The whole machine -/

/-- 10_state.md R44: every step keeps the invariant. -/
def Obligations.StepKeepsTheInvariant : Prop :=
  ∀ s s' : State, s.Inv → step s = .next s' → s'.Inv

/-- 10_state.md R44 (1) to (7) as it is written: it holds wherever a claim about the block speaks of its registers
(60_exceptions.md R257: at the end of a run, or at a hold; that a lifted hold is no longer one is the model's
choice, log 24), in every state of the invariant in which no hold is
lifted and not yet resumed, after every turn of the control agent whatever the state before it, and every event
keeps it but the two that lift a hold: TIMEOUT its (2) (log 13), SETTLED its (3) (log 14). (8) is StickyBitsStaySet,
and that the cursor never decreases is CursorOnlyAdvances. -/
def Obligations.R44HoldsBetweenResumptions : Prop :=
  (∀ s : State, s.Inv → s.observed → s.R44) ∧
  (∀ s : State, s.Inv → ¬ HoldLifted s → s.R44) ∧
  (∀ (s s' : State) (e : Env), s.Inv → s.env.drawTurn = (.agent, e) → step s = .next s' → s'.R44) ∧
  (∀ (s s' : State) (ev : Event) (e : Env), s.Inv → s.R44 → s.env.drawTurn = (.event ev, e) → step s = .next s' →
    (s.hold = .window → ev ≠ .timeout) → (s.drvActive = false → ev ≠ .settled) → s'.R44)

/-- 20_memory.md R76: no step decreases the cursor, and it moves by at most one word. -/
def Obligations.CursorOnlyAdvances : Prop :=
  ∀ s s' : State, s.Inv → step s = .next s' →
    s.cursor.toNat ≤ s'.cursor.toNat ∧ s'.cursor.toNat ≤ s.cursor.toNat + 1

/-- 10_state.md R44 (8), R42: no step clears a sticky flag, `SD.VIOLATION`, `FAULT` or `REFUSED`. -/
def Obligations.StickyBitsStaySet : Prop :=
  ∀ s s' : State, step s = .next s' →
    (s.df.memError = true → s'.df.memError = true) ∧ (s.df.tempError = true → s'.df.tempError = true) ∧
    (s.df.cmdOverflow = true → s'.df.cmdOverflow = true) ∧ (s.df.cmdError = true → s'.df.cmdError = true) ∧
    (s.violation = true → s'.violation = true) ∧ (s.refused = true → s'.refused = true) ∧
    s.faults <+: s'.faults

/-- 10_state.md R42: the traces only grow, at their ends. -/
def Obligations.TracesOnlyGrow : Prop :=
  ∀ s s' : State, step s = .next s' →
    s.busTrace <+: s'.busTrace ∧ s.txTrace <+: s'.txTrace ∧ s.resTrace <+: s'.resTrace

/-- 10_state.md R43, R37: no step changes the parameters or the program, or sets `DF.CMD_ERROR`. -/
def Obligations.ConfigurationIsFixed : Prop :=
  ∀ s s' : State, step s = .next s' →
    s'.cfg = s.cfg ∧ s'.program = s.program ∧ s'.df.cmdError = s.df.cmdError

/-- 20_memory.md R79, 70_reset_and_hazards.md R291: chip select is low after every step that starts with it
low, on every exit path. -/
def Obligations.ChipSelectIsReleased : Prop :=
  ∀ s s' : State, step s = .next s' → s.cs = false → s'.cs = false

/-- 20_memory.md R71: in a step that starts with the device powered down or waking, no bus transaction is
issued; only the wake trigger may be. -/
def Obligations.NoTrafficWhileDown : Prop :=
  ∀ s s' : State, s.Inv → step s = .next s' → s.pwr = .poweredDown ∨ s.pwr = .waking →
    transactions s'.busTrace = transactions s.busTrace

/-- 40_store_driver.md R157: `Waking` is left only by SETTLED, to `Awake`. -/
def Obligations.WakingIsLeftOnlyBySettled : Prop :=
  ∀ s s' : State, step s = .next s' → s.pwr = .waking → s'.pwr ≠ .waking →
    s.env.drawTurn.1 = .event .settled ∧ s'.pwr = .awake

/-- 40_store_driver.md R157: the transitions of `SD.PWR` the store driver's requests make. -/
def Obligations.PowerTransitionsOfDriverRequests : Prop :=
  ∀ (s t : State) (i : Instr), s.Inv → s.currentRequest = some i → isSdRequest i = true → exec i s = .next t →
    t.pwr ≠ s.pwr →
    (s.pwr = .poweredDown ∧ t.pwr = .waking ∧
      (i = .sdInit ∧ s.drvActive = false ∨ i = .sdUdpdExitBegin ∧ s.drvActive = true)) ∨
    (s.pwr = .awake ∧ t.pwr = .busy ∧
      ((∃ a v, i = .sdWrite a v) ∨ (∃ v, i = .sdWrSr1 v) ∨ (∃ v, i = .sdLog v) ∨ i = .sdRefresh)) ∨
    (s.pwr = .busy ∧ t.pwr = .awake ∧ ((∃ v, i = .sdLog v) ∨ i = .sdRefresh)) ∨
    (s.pwr = .awake ∧ t.pwr = .poweredDown ∧ (i = .sdUdpdEnter ∨ i = .sdTerm))

/-- 20_memory.md R66, R77 (1): a word written once, with outcome Ok, is what every later Ok read of its
address returns, as long as no other write to it was made. -/
def Obligations.ReadAfterWrite : Prop :=
  ∀ (s t u : State) (a v : Word) (e e' : Env),
    s.drvActive = true → s.pwr = .awake → a.toNat < s.cfg.nvmWords → ¬ ProtectedBy s s.sr1c s.sr2c →
    s.env.drawOutcome = (.ok, e) → s.writeLog.entries a.toNat = [] →
    exec (.sdWrite a v) s = .next t →
    u.writeLog.entries a.toNat = t.writeLog.entries a.toNat → u.cfg = t.cfg →
    u.drvActive = true → u.pwr = .awake → u.env.drawOutcome = (.ok, e') →
    ∃ u', exec (.sdRead a) u = .next u' ∧ u'.resTrace = u.resTrace ++ [.word .ok v]

/-- 20_memory.md R66, R76: the memory frame. SD_WRITE touches the log of its address alone; every other
instruction touches at most the cursor's, and only one that contains SD_LOG touches any. -/
def Obligations.MemoryFrame : Prop :=
  ∀ (s t : State) (i : Instr), exec i s = .next t →
    (∀ a v, i = .sdWrite a v → ∀ b, b ≠ a.toNat → t.writeLog.entries b = s.writeLog.entries b) ∧
    ((∀ a v, i ≠ .sdWrite a v) → ∀ b, b ≠ s.cursor.toNat → t.writeLog.entries b = s.writeLog.entries b) ∧
    ((∀ a v, i ≠ .sdWrite a v) → mayLog i = false → t.writeLog = s.writeLog)

/-- The register frame of the store driver's requests: no register of the protocol engine or of the session
controller changes, but the hold and `DF.MEM_ERROR` (no other bit of `DF`) by SD_INIT; nothing is sent but by
SD_PRINT_ID. -/
def Obligations.DriverRequestsFrame : Prop :=
  ∀ (s t : State) (i : Instr), isSdRequest i = true → exec i s = .next t →
    t.buf = s.buf ∧ t.idx = s.idx ∧ t.wovf = s.wovf ∧ t.rxEn = s.rxEn ∧
    t.sessionBase = s.sessionBase ∧ t.tickPend = s.tickPend ∧ t.df.logging = s.df.logging ∧
    t.df.tempError = s.df.tempError ∧ t.df.cmdOverflow = s.df.cmdOverflow ∧ t.df.cmdError = s.df.cmdError ∧
    (i ≠ .sdInit → t.hold = s.hold ∧ t.df = s.df) ∧ (i ≠ .sdPrintId → t.txTrace = s.txTrace)

/-- 10_state.md R38, R39: only a begin and an end move the session state, and `SC.SESSION_BASE` moves only
with the transition from Idle to Logging, which puts it at the cursor the step started with. -/
def Obligations.SessionStateFrame : Prop :=
  ∀ s s' : State, step s = .next s' →
    (s'.sessionBase ≠ s.sessionBase → s.df.logging = false ∧ s'.df.logging = true ∧ s'.sessionBase = s.cursor) ∧
    (s.df.logging = false → s'.df.logging = true → s'.sessionBase = s.cursor) ∧
    (s'.df.logging ≠ s.df.logging → s.env.drawTurn.1 = .agent ∧
      (s.followGoto.currentRequest = some .scBegin ∨ s.followGoto.currentRequest = some .scEnd ∨
        s.followGoto.currentRequest = some .peDispatch ∨
        s.hold = .window ∧ s.rxEn = false ∧ s.idx ≠ 0 ∧ (s.buf[0] = 0x42#8 ∨ s.buf[0] = 0x45#8)))

/-- 41_protocol_engine.md R188 (1), (2): over any sequence of appends since a clear, the index is the number
of bytes up to the capacity, and `PE.WOVF` is set exactly when more than 16 were appended. -/
def Obligations.AppendsFillThenOverflow : Prop :=
  ∀ (s : State) (cs : List Byte),
    let t := cs.foldl (fun u c => eventRx c u) { s with idx := 0, wovf := false, rxEn := true }
    t.idx.toNat = min cs.length 16 ∧ (t.wovf = true ↔ 16 < cs.length) ∧
    t.buf.toList.take (min cs.length 16) = cs.take 16 ∧
    t.buf.toList.drop (min cs.length 16) = s.buf.toList.drop (min cs.length 16)

/-- 10_state.md R44 (2) as it is written, kept by every step: it is not (log 13). Between TIMEOUT and the
resumption of the exchange `PE.RX_EN` is 0 and `SC.HOLD` is WINDOW. -/
def Obligations.ReceiveEnabledExactlyAtTheWindowHold : Prop :=
  ∀ s s' : State, s.Inv → (s.rxEn = true ↔ s.hold = .window) → step s = .next s' →
    (s'.rxEn = true ↔ s'.hold = .window)
end

