-- ==== Sys2Proof/Laws/Memory.lean ====
section
/-! SUPPORT. `WRITELOG`: reading after a push, and the canonical form is kept. -/

namespace Sys2Proof.Machine

/-- A push leaves every other address's log alone. -/
theorem Memory.entries_push_other (m : Memory) (a b : Nat) (e : LogEntry) (h : b ≠ a) :
    (Memory.push m a e).entries b = Memory.entries m b := by
  induction m with
  | nil => simp [push, entries, Ne.symm h]
  | cons p m ih =>
    obtain ⟨c, es⟩ := p
    simp only [push]
    split
    · simp [entries, Ne.symm h]
    · split
      · subst_vars; simp [entries, Ne.symm h]
      · simp only [entries, ih]

/-- The address pushed to reads as its log with the entry appended, in a canonical log or where its log was
empty. -/
theorem Memory.entries_push_first (m : Memory) (a : Nat) (e : LogEntry) (h : Memory.entries m a = []) :
    (Memory.push m a e).entries a = [e] := by
  induction m with
  | nil => simp [push, entries]
  | cons p m ih =>
    obtain ⟨c, es⟩ := p
    simp only [push]
    split
    · simp [entries]
    · split
      · next hac => subst hac; simp_all [entries]
      · next hac =>
        simp only [entries, if_neg (Ne.symm hac)] at h ⊢
        exact ih h

/-- Below its lower bound a canonical log lists nothing. -/
theorem Memory.entries_below (m : Memory) (lo a : Nat) (hm : Memory.wfFrom m lo = true) (h : a < lo) :
    Memory.entries m a = [] := by
  induction m generalizing lo with
  | nil => rfl
  | cons p m ih =>
    obtain ⟨c, es⟩ := p
    simp only [wfFrom, Bool.and_eq_true, decide_eq_true_eq] at hm
    have hc : c ≠ a := by omega
    simp only [entries, if_neg hc]
    exact ih (c + 1) hm.2 (by omega)

theorem Memory.entries_push_same_from (m : Memory) (lo a : Nat) (e : LogEntry) (hm : Memory.wfFrom m lo = true) :
    (Memory.push m a e).entries a = Memory.entries m a ++ [e] := by
  induction m generalizing lo with
  | nil => simp [push, entries]
  | cons p m ih =>
    obtain ⟨c, es⟩ := p
    simp only [wfFrom, Bool.and_eq_true, decide_eq_true_eq] at hm
    simp only [push]
    split
    · next hlt =>
      have hc : c ≠ a := by omega
      simp [entries, hc, Memory.entries_below m (c + 1) a hm.2 (by omega)]
    · split
      · next hac => subst hac; simp [entries]
      · next hac => simp only [entries, if_neg (Ne.symm hac)]; exact ih (c + 1) hm.2

/-- In a canonical log, a push appends its entry to its address's log (20_memory.md R66). -/
theorem Memory.entries_push_same (m : Memory) (a : Nat) (e : LogEntry) (hm : Memory.wf m = true) :
    (Memory.push m a e).entries a = Memory.entries m a ++ [e] :=
  Memory.entries_push_same_from m 0 a e hm

theorem Memory.wfFrom_push (m : Memory) (lo a : Nat) (e : LogEntry) (hm : Memory.wfFrom m lo = true) (h : lo ≤ a) :
    (Memory.push m a e).wfFrom lo = true := by
  induction m generalizing lo with
  | nil => simp [push, wfFrom, h]
  | cons p m ih =>
    obtain ⟨c, es⟩ := p
    simp only [wfFrom, Bool.and_eq_true, decide_eq_true_eq] at hm
    obtain ⟨⟨hlo, hes⟩, hm⟩ := hm
    simp only [push]
    split
    · next hlt => simp [wfFrom, h, Nat.succ_le_of_lt hlt, hm, hes]
    · split
      · next hac => subst hac; simp [wfFrom, hlo, hm]
      · next hac => simp [wfFrom, hlo, hes, ih (c + 1) hm (by omega)]

/-- A push keeps the canonical form. -/
theorem Memory.wf_push (m : Memory) (a : Nat) (e : LogEntry) (hm : Memory.wf m = true) :
    (Memory.push m a e).wf = true :=
  Memory.wfFrom_push m 0 a e hm (Nat.zero_le a)

/-- A transaction keeps the canonical form. -/
theorem Memory.wf_record (m : Memory) (o : BusOutcome) (c : BusCmd) (hm : Memory.wf m = true) :
    (Memory.record m o c).wf = true := by
  cases c with
  | write a v => exact Memory.wf_push m _ _ hm
  | _ => exact hm

/-- The contract's known value is the value of a single Ok write (20_memory.md R66). -/
theorem Memory.known_eq_some (m : Memory) (a : Nat) (v : Word) :
    Memory.known m a = some v ↔ Memory.entries m a = [.wrote v] := by
  unfold known
  split <;> simp_all

theorem Memory.known_eq_none (m : Memory) (a : Nat) :
    Memory.known m a = none ↔ ∀ v, Memory.entries m a ≠ [.wrote v] := by
  unfold known
  split <;> simp_all

end Sys2Proof.Machine
end

