-- ==== Sys2Proof/Laws/State.lean ====
section
/-! SUPPORT. One lemma per field for each named update of the state, so that no proof unfolds a record
update. -/

namespace Sys2Proof.Machine

variable (s : State)

/-! `State.raise` -/

@[simp] theorem State.raise_drvActive (f : Fault) : (s.raise f).drvActive = s.drvActive := rfl
@[simp] theorem State.raise_pwr (f : Fault) : (s.raise f).pwr = s.pwr := rfl
@[simp] theorem State.raise_sr1c (f : Fault) : (s.raise f).sr1c = s.sr1c := rfl
@[simp] theorem State.raise_sr2c (f : Fault) : (s.raise f).sr2c = s.sr2c := rfl
@[simp] theorem State.raise_srValid (f : Fault) : (s.raise f).srValid = s.srValid := rfl
@[simp] theorem State.raise_cursor (f : Fault) : (s.raise f).cursor = s.cursor := rfl
@[simp] theorem State.raise_otpBuf (f : Fault) : (s.raise f).otpBuf = s.otpBuf := rfl
@[simp] theorem State.raise_otpValid (f : Fault) : (s.raise f).otpValid = s.otpValid := rfl
@[simp] theorem State.raise_violation (f : Fault) : (s.raise f).violation = s.violation := rfl
@[simp] theorem State.raise_cs (f : Fault) : (s.raise f).cs = s.cs := rfl
@[simp] theorem State.raise_buf (f : Fault) : (s.raise f).buf = s.buf := rfl
@[simp] theorem State.raise_idx (f : Fault) : (s.raise f).idx = s.idx := rfl
@[simp] theorem State.raise_wovf (f : Fault) : (s.raise f).wovf = s.wovf := rfl
@[simp] theorem State.raise_rxEn (f : Fault) : (s.raise f).rxEn = s.rxEn := rfl
@[simp] theorem State.raise_df (f : Fault) : (s.raise f).df = s.df := rfl
@[simp] theorem State.raise_sessionBase (f : Fault) : (s.raise f).sessionBase = s.sessionBase := rfl
@[simp] theorem State.raise_tickPend (f : Fault) : (s.raise f).tickPend = s.tickPend := rfl
@[simp] theorem State.raise_hold (f : Fault) : (s.raise f).hold = s.hold := rfl
@[simp] theorem State.raise_cp (f : Fault) : (s.raise f).cp = s.cp := rfl
@[simp] theorem State.raise_program (f : Fault) : (s.raise f).program = s.program := rfl
@[simp] theorem State.raise_faults (f : Fault) : (s.raise f).faults = s.faults ++ [f] := rfl
@[simp] theorem State.raise_refused (f : Fault) : (s.raise f).refused = s.refused := rfl
@[simp] theorem State.raise_busTrace (f : Fault) : (s.raise f).busTrace = s.busTrace := rfl
@[simp] theorem State.raise_txTrace (f : Fault) : (s.raise f).txTrace = s.txTrace := rfl
@[simp] theorem State.raise_resTrace (f : Fault) : (s.raise f).resTrace = s.resTrace := rfl
@[simp] theorem State.raise_writeLog (f : Fault) : (s.raise f).writeLog = s.writeLog := rfl
@[simp] theorem State.raise_cfg (f : Fault) : (s.raise f).cfg = s.cfg := rfl
@[simp] theorem State.raise_env (f : Fault) : (s.raise f).env = s.env := rfl

/-! `State.flagViolation` -/

@[simp] theorem State.flagViolation_drvActive : (s.flagViolation).drvActive = s.drvActive := rfl
@[simp] theorem State.flagViolation_pwr : (s.flagViolation).pwr = s.pwr := rfl
@[simp] theorem State.flagViolation_sr1c : (s.flagViolation).sr1c = s.sr1c := rfl
@[simp] theorem State.flagViolation_sr2c : (s.flagViolation).sr2c = s.sr2c := rfl
@[simp] theorem State.flagViolation_srValid : (s.flagViolation).srValid = s.srValid := rfl
@[simp] theorem State.flagViolation_cursor : (s.flagViolation).cursor = s.cursor := rfl
@[simp] theorem State.flagViolation_otpBuf : (s.flagViolation).otpBuf = s.otpBuf := rfl
@[simp] theorem State.flagViolation_otpValid : (s.flagViolation).otpValid = s.otpValid := rfl
@[simp] theorem State.flagViolation_violation : (s.flagViolation).violation = true := rfl
@[simp] theorem State.flagViolation_cs : (s.flagViolation).cs = s.cs := rfl
@[simp] theorem State.flagViolation_buf : (s.flagViolation).buf = s.buf := rfl
@[simp] theorem State.flagViolation_idx : (s.flagViolation).idx = s.idx := rfl
@[simp] theorem State.flagViolation_wovf : (s.flagViolation).wovf = s.wovf := rfl
@[simp] theorem State.flagViolation_rxEn : (s.flagViolation).rxEn = s.rxEn := rfl
@[simp] theorem State.flagViolation_df : (s.flagViolation).df = s.df := rfl
@[simp] theorem State.flagViolation_sessionBase : (s.flagViolation).sessionBase = s.sessionBase := rfl
@[simp] theorem State.flagViolation_tickPend : (s.flagViolation).tickPend = s.tickPend := rfl
@[simp] theorem State.flagViolation_hold : (s.flagViolation).hold = s.hold := rfl
@[simp] theorem State.flagViolation_cp : (s.flagViolation).cp = s.cp := rfl
@[simp] theorem State.flagViolation_program : (s.flagViolation).program = s.program := rfl
@[simp] theorem State.flagViolation_faults : (s.flagViolation).faults = s.faults := rfl
@[simp] theorem State.flagViolation_refused : (s.flagViolation).refused = s.refused := rfl
@[simp] theorem State.flagViolation_busTrace : (s.flagViolation).busTrace = s.busTrace := rfl
@[simp] theorem State.flagViolation_txTrace : (s.flagViolation).txTrace = s.txTrace := rfl
@[simp] theorem State.flagViolation_resTrace : (s.flagViolation).resTrace = s.resTrace := rfl
@[simp] theorem State.flagViolation_writeLog : (s.flagViolation).writeLog = s.writeLog := rfl
@[simp] theorem State.flagViolation_cfg : (s.flagViolation).cfg = s.cfg := rfl
@[simp] theorem State.flagViolation_env : (s.flagViolation).env = s.env := rfl

/-! `State.memError` -/

@[simp] theorem State.memError_drvActive : (s.memError).drvActive = s.drvActive := rfl
@[simp] theorem State.memError_pwr : (s.memError).pwr = s.pwr := rfl
@[simp] theorem State.memError_sr1c : (s.memError).sr1c = s.sr1c := rfl
@[simp] theorem State.memError_sr2c : (s.memError).sr2c = s.sr2c := rfl
@[simp] theorem State.memError_srValid : (s.memError).srValid = s.srValid := rfl
@[simp] theorem State.memError_cursor : (s.memError).cursor = s.cursor := rfl
@[simp] theorem State.memError_otpBuf : (s.memError).otpBuf = s.otpBuf := rfl
@[simp] theorem State.memError_otpValid : (s.memError).otpValid = s.otpValid := rfl
@[simp] theorem State.memError_violation : (s.memError).violation = s.violation := rfl
@[simp] theorem State.memError_cs : (s.memError).cs = s.cs := rfl
@[simp] theorem State.memError_buf : (s.memError).buf = s.buf := rfl
@[simp] theorem State.memError_idx : (s.memError).idx = s.idx := rfl
@[simp] theorem State.memError_wovf : (s.memError).wovf = s.wovf := rfl
@[simp] theorem State.memError_rxEn : (s.memError).rxEn = s.rxEn := rfl
@[simp] theorem State.memError_df : (s.memError).df = s.df.setMemError := rfl
@[simp] theorem State.memError_sessionBase : (s.memError).sessionBase = s.sessionBase := rfl
@[simp] theorem State.memError_tickPend : (s.memError).tickPend = s.tickPend := rfl
@[simp] theorem State.memError_hold : (s.memError).hold = s.hold := rfl
@[simp] theorem State.memError_cp : (s.memError).cp = s.cp := rfl
@[simp] theorem State.memError_program : (s.memError).program = s.program := rfl
@[simp] theorem State.memError_faults : (s.memError).faults = s.faults := rfl
@[simp] theorem State.memError_refused : (s.memError).refused = s.refused := rfl
@[simp] theorem State.memError_busTrace : (s.memError).busTrace = s.busTrace := rfl
@[simp] theorem State.memError_txTrace : (s.memError).txTrace = s.txTrace := rfl
@[simp] theorem State.memError_resTrace : (s.memError).resTrace = s.resTrace := rfl
@[simp] theorem State.memError_writeLog : (s.memError).writeLog = s.writeLog := rfl
@[simp] theorem State.memError_cfg : (s.memError).cfg = s.cfg := rfl
@[simp] theorem State.memError_env : (s.memError).env = s.env := rfl

/-! `State.setHold` -/

@[simp] theorem State.setHold_drvActive (h : Hold) : (s.setHold h).drvActive = s.drvActive := rfl
@[simp] theorem State.setHold_pwr (h : Hold) : (s.setHold h).pwr = s.pwr := rfl
@[simp] theorem State.setHold_sr1c (h : Hold) : (s.setHold h).sr1c = s.sr1c := rfl
@[simp] theorem State.setHold_sr2c (h : Hold) : (s.setHold h).sr2c = s.sr2c := rfl
@[simp] theorem State.setHold_srValid (h : Hold) : (s.setHold h).srValid = s.srValid := rfl
@[simp] theorem State.setHold_cursor (h : Hold) : (s.setHold h).cursor = s.cursor := rfl
@[simp] theorem State.setHold_otpBuf (h : Hold) : (s.setHold h).otpBuf = s.otpBuf := rfl
@[simp] theorem State.setHold_otpValid (h : Hold) : (s.setHold h).otpValid = s.otpValid := rfl
@[simp] theorem State.setHold_violation (h : Hold) : (s.setHold h).violation = s.violation := rfl
@[simp] theorem State.setHold_cs (h : Hold) : (s.setHold h).cs = s.cs := rfl
@[simp] theorem State.setHold_buf (h : Hold) : (s.setHold h).buf = s.buf := rfl
@[simp] theorem State.setHold_idx (h : Hold) : (s.setHold h).idx = s.idx := rfl
@[simp] theorem State.setHold_wovf (h : Hold) : (s.setHold h).wovf = s.wovf := rfl
@[simp] theorem State.setHold_rxEn (h : Hold) : (s.setHold h).rxEn = s.rxEn := rfl
@[simp] theorem State.setHold_df (h : Hold) : (s.setHold h).df = s.df := rfl
@[simp] theorem State.setHold_sessionBase (h : Hold) : (s.setHold h).sessionBase = s.sessionBase := rfl
@[simp] theorem State.setHold_tickPend (h : Hold) : (s.setHold h).tickPend = s.tickPend := rfl
@[simp] theorem State.setHold_hold (h : Hold) : (s.setHold h).hold = h := rfl
@[simp] theorem State.setHold_cp (h : Hold) : (s.setHold h).cp = s.cp := rfl
@[simp] theorem State.setHold_program (h : Hold) : (s.setHold h).program = s.program := rfl
@[simp] theorem State.setHold_faults (h : Hold) : (s.setHold h).faults = s.faults := rfl
@[simp] theorem State.setHold_refused (h : Hold) : (s.setHold h).refused = s.refused := rfl
@[simp] theorem State.setHold_busTrace (h : Hold) : (s.setHold h).busTrace = s.busTrace := rfl
@[simp] theorem State.setHold_txTrace (h : Hold) : (s.setHold h).txTrace = s.txTrace := rfl
@[simp] theorem State.setHold_resTrace (h : Hold) : (s.setHold h).resTrace = s.resTrace := rfl
@[simp] theorem State.setHold_writeLog (h : Hold) : (s.setHold h).writeLog = s.writeLog := rfl
@[simp] theorem State.setHold_cfg (h : Hold) : (s.setHold h).cfg = s.cfg := rfl
@[simp] theorem State.setHold_env (h : Hold) : (s.setHold h).env = s.env := rfl

/-! `State.tx` -/

@[simp] theorem State.tx_drvActive (i : TxItem) : (s.tx i).drvActive = s.drvActive := rfl
@[simp] theorem State.tx_pwr (i : TxItem) : (s.tx i).pwr = s.pwr := rfl
@[simp] theorem State.tx_sr1c (i : TxItem) : (s.tx i).sr1c = s.sr1c := rfl
@[simp] theorem State.tx_sr2c (i : TxItem) : (s.tx i).sr2c = s.sr2c := rfl
@[simp] theorem State.tx_srValid (i : TxItem) : (s.tx i).srValid = s.srValid := rfl
@[simp] theorem State.tx_cursor (i : TxItem) : (s.tx i).cursor = s.cursor := rfl
@[simp] theorem State.tx_otpBuf (i : TxItem) : (s.tx i).otpBuf = s.otpBuf := rfl
@[simp] theorem State.tx_otpValid (i : TxItem) : (s.tx i).otpValid = s.otpValid := rfl
@[simp] theorem State.tx_violation (i : TxItem) : (s.tx i).violation = s.violation := rfl
@[simp] theorem State.tx_cs (i : TxItem) : (s.tx i).cs = s.cs := rfl
@[simp] theorem State.tx_buf (i : TxItem) : (s.tx i).buf = s.buf := rfl
@[simp] theorem State.tx_idx (i : TxItem) : (s.tx i).idx = s.idx := rfl
@[simp] theorem State.tx_wovf (i : TxItem) : (s.tx i).wovf = s.wovf := rfl
@[simp] theorem State.tx_rxEn (i : TxItem) : (s.tx i).rxEn = s.rxEn := rfl
@[simp] theorem State.tx_df (i : TxItem) : (s.tx i).df = s.df := rfl
@[simp] theorem State.tx_sessionBase (i : TxItem) : (s.tx i).sessionBase = s.sessionBase := rfl
@[simp] theorem State.tx_tickPend (i : TxItem) : (s.tx i).tickPend = s.tickPend := rfl
@[simp] theorem State.tx_hold (i : TxItem) : (s.tx i).hold = s.hold := rfl
@[simp] theorem State.tx_cp (i : TxItem) : (s.tx i).cp = s.cp := rfl
@[simp] theorem State.tx_program (i : TxItem) : (s.tx i).program = s.program := rfl
@[simp] theorem State.tx_faults (i : TxItem) : (s.tx i).faults = s.faults := rfl
@[simp] theorem State.tx_refused (i : TxItem) : (s.tx i).refused = s.refused := rfl
@[simp] theorem State.tx_busTrace (i : TxItem) : (s.tx i).busTrace = s.busTrace := rfl
@[simp] theorem State.tx_txTrace (i : TxItem) : (s.tx i).txTrace = s.txTrace ++ [i] := rfl
@[simp] theorem State.tx_resTrace (i : TxItem) : (s.tx i).resTrace = s.resTrace := rfl
@[simp] theorem State.tx_writeLog (i : TxItem) : (s.tx i).writeLog = s.writeLog := rfl
@[simp] theorem State.tx_cfg (i : TxItem) : (s.tx i).cfg = s.cfg := rfl
@[simp] theorem State.tx_env (i : TxItem) : (s.tx i).env = s.env := rfl

/-! `State.clearBuffer` -/

@[simp] theorem State.clearBuffer_drvActive : (s.clearBuffer).drvActive = s.drvActive := rfl
@[simp] theorem State.clearBuffer_pwr : (s.clearBuffer).pwr = s.pwr := rfl
@[simp] theorem State.clearBuffer_sr1c : (s.clearBuffer).sr1c = s.sr1c := rfl
@[simp] theorem State.clearBuffer_sr2c : (s.clearBuffer).sr2c = s.sr2c := rfl
@[simp] theorem State.clearBuffer_srValid : (s.clearBuffer).srValid = s.srValid := rfl
@[simp] theorem State.clearBuffer_cursor : (s.clearBuffer).cursor = s.cursor := rfl
@[simp] theorem State.clearBuffer_otpBuf : (s.clearBuffer).otpBuf = s.otpBuf := rfl
@[simp] theorem State.clearBuffer_otpValid : (s.clearBuffer).otpValid = s.otpValid := rfl
@[simp] theorem State.clearBuffer_violation : (s.clearBuffer).violation = s.violation := rfl
@[simp] theorem State.clearBuffer_cs : (s.clearBuffer).cs = s.cs := rfl
@[simp] theorem State.clearBuffer_buf : (s.clearBuffer).buf = s.buf := rfl
@[simp] theorem State.clearBuffer_idx : (s.clearBuffer).idx = 0 := rfl
@[simp] theorem State.clearBuffer_wovf : (s.clearBuffer).wovf = false := rfl
@[simp] theorem State.clearBuffer_rxEn : (s.clearBuffer).rxEn = s.rxEn := rfl
@[simp] theorem State.clearBuffer_df : (s.clearBuffer).df = s.df := rfl
@[simp] theorem State.clearBuffer_sessionBase : (s.clearBuffer).sessionBase = s.sessionBase := rfl
@[simp] theorem State.clearBuffer_tickPend : (s.clearBuffer).tickPend = s.tickPend := rfl
@[simp] theorem State.clearBuffer_hold : (s.clearBuffer).hold = s.hold := rfl
@[simp] theorem State.clearBuffer_cp : (s.clearBuffer).cp = s.cp := rfl
@[simp] theorem State.clearBuffer_program : (s.clearBuffer).program = s.program := rfl
@[simp] theorem State.clearBuffer_faults : (s.clearBuffer).faults = s.faults := rfl
@[simp] theorem State.clearBuffer_refused : (s.clearBuffer).refused = s.refused := rfl
@[simp] theorem State.clearBuffer_busTrace : (s.clearBuffer).busTrace = s.busTrace := rfl
@[simp] theorem State.clearBuffer_txTrace : (s.clearBuffer).txTrace = s.txTrace := rfl
@[simp] theorem State.clearBuffer_resTrace : (s.clearBuffer).resTrace = s.resTrace := rfl
@[simp] theorem State.clearBuffer_writeLog : (s.clearBuffer).writeLog = s.writeLog := rfl
@[simp] theorem State.clearBuffer_cfg : (s.clearBuffer).cfg = s.cfg := rfl
@[simp] theorem State.clearBuffer_env : (s.clearBuffer).env = s.env := rfl

/-! `State.finish` -/

@[simp] theorem State.finish_drvActive (r : Result) : (s.finish r).drvActive = s.drvActive := rfl
@[simp] theorem State.finish_pwr (r : Result) : (s.finish r).pwr = s.pwr := rfl
@[simp] theorem State.finish_sr1c (r : Result) : (s.finish r).sr1c = s.sr1c := rfl
@[simp] theorem State.finish_sr2c (r : Result) : (s.finish r).sr2c = s.sr2c := rfl
@[simp] theorem State.finish_srValid (r : Result) : (s.finish r).srValid = s.srValid := rfl
@[simp] theorem State.finish_cursor (r : Result) : (s.finish r).cursor = s.cursor := rfl
@[simp] theorem State.finish_otpBuf (r : Result) : (s.finish r).otpBuf = s.otpBuf := rfl
@[simp] theorem State.finish_otpValid (r : Result) : (s.finish r).otpValid = s.otpValid := rfl
@[simp] theorem State.finish_violation (r : Result) : (s.finish r).violation = s.violation := rfl
@[simp] theorem State.finish_cs (r : Result) : (s.finish r).cs = s.cs := rfl
@[simp] theorem State.finish_buf (r : Result) : (s.finish r).buf = s.buf := rfl
@[simp] theorem State.finish_idx (r : Result) : (s.finish r).idx = s.idx := rfl
@[simp] theorem State.finish_wovf (r : Result) : (s.finish r).wovf = s.wovf := rfl
@[simp] theorem State.finish_rxEn (r : Result) : (s.finish r).rxEn = s.rxEn := rfl
@[simp] theorem State.finish_df (r : Result) : (s.finish r).df = s.df := rfl
@[simp] theorem State.finish_sessionBase (r : Result) : (s.finish r).sessionBase = s.sessionBase := rfl
@[simp] theorem State.finish_tickPend (r : Result) : (s.finish r).tickPend = s.tickPend := rfl
@[simp] theorem State.finish_hold (r : Result) : (s.finish r).hold = s.hold := rfl
@[simp] theorem State.finish_cp (r : Result) : (s.finish r).cp = s.cp + 1 := rfl
@[simp] theorem State.finish_program (r : Result) : (s.finish r).program = s.program := rfl
@[simp] theorem State.finish_faults (r : Result) : (s.finish r).faults = s.faults := rfl
@[simp] theorem State.finish_refused (r : Result) : (s.finish r).refused = s.refused := rfl
@[simp] theorem State.finish_busTrace (r : Result) : (s.finish r).busTrace = s.busTrace := rfl
@[simp] theorem State.finish_txTrace (r : Result) : (s.finish r).txTrace = s.txTrace := rfl
@[simp] theorem State.finish_resTrace (r : Result) : (s.finish r).resTrace = s.resTrace ++ [r] := rfl
@[simp] theorem State.finish_writeLog (r : Result) : (s.finish r).writeLog = s.writeLog := rfl
@[simp] theorem State.finish_cfg (r : Result) : (s.finish r).cfg = s.cfg := rfl
@[simp] theorem State.finish_env (r : Result) : (s.finish r).env = s.env := rfl

/-! `State.refuse` -/

@[simp] theorem State.refuse_drvActive : (s.refuse).drvActive = s.drvActive := rfl
@[simp] theorem State.refuse_pwr : (s.refuse).pwr = s.pwr := rfl
@[simp] theorem State.refuse_sr1c : (s.refuse).sr1c = s.sr1c := rfl
@[simp] theorem State.refuse_sr2c : (s.refuse).sr2c = s.sr2c := rfl
@[simp] theorem State.refuse_srValid : (s.refuse).srValid = s.srValid := rfl
@[simp] theorem State.refuse_cursor : (s.refuse).cursor = s.cursor := rfl
@[simp] theorem State.refuse_otpBuf : (s.refuse).otpBuf = s.otpBuf := rfl
@[simp] theorem State.refuse_otpValid : (s.refuse).otpValid = s.otpValid := rfl
@[simp] theorem State.refuse_violation : (s.refuse).violation = s.violation := rfl
@[simp] theorem State.refuse_cs : (s.refuse).cs = s.cs := rfl
@[simp] theorem State.refuse_buf : (s.refuse).buf = s.buf := rfl
@[simp] theorem State.refuse_idx : (s.refuse).idx = s.idx := rfl
@[simp] theorem State.refuse_wovf : (s.refuse).wovf = s.wovf := rfl
@[simp] theorem State.refuse_rxEn : (s.refuse).rxEn = s.rxEn := rfl
@[simp] theorem State.refuse_df : (s.refuse).df = s.df := rfl
@[simp] theorem State.refuse_sessionBase : (s.refuse).sessionBase = s.sessionBase := rfl
@[simp] theorem State.refuse_tickPend : (s.refuse).tickPend = s.tickPend := rfl
@[simp] theorem State.refuse_hold : (s.refuse).hold = s.hold := rfl
@[simp] theorem State.refuse_cp : (s.refuse).cp = s.cp := rfl
@[simp] theorem State.refuse_program : (s.refuse).program = s.program := rfl
@[simp] theorem State.refuse_faults : (s.refuse).faults = s.faults := rfl
@[simp] theorem State.refuse_refused : (s.refuse).refused = true := rfl
@[simp] theorem State.refuse_busTrace : (s.refuse).busTrace = s.busTrace := rfl
@[simp] theorem State.refuse_txTrace : (s.refuse).txTrace = s.txTrace := rfl
@[simp] theorem State.refuse_resTrace : (s.refuse).resTrace = s.resTrace := rfl
@[simp] theorem State.refuse_writeLog : (s.refuse).writeLog = s.writeLog := rfl
@[simp] theorem State.refuse_cfg : (s.refuse).cfg = s.cfg := rfl
@[simp] theorem State.refuse_env : (s.refuse).env = s.env := rfl

/-! `wakeTrigger` -/

@[simp] theorem wakeTrigger_drvActive : (wakeTrigger s).drvActive = s.drvActive := rfl
@[simp] theorem wakeTrigger_pwr : (wakeTrigger s).pwr = s.pwr := rfl
@[simp] theorem wakeTrigger_sr1c : (wakeTrigger s).sr1c = s.sr1c := rfl
@[simp] theorem wakeTrigger_sr2c : (wakeTrigger s).sr2c = s.sr2c := rfl
@[simp] theorem wakeTrigger_srValid : (wakeTrigger s).srValid = s.srValid := rfl
@[simp] theorem wakeTrigger_cursor : (wakeTrigger s).cursor = s.cursor := rfl
@[simp] theorem wakeTrigger_otpBuf : (wakeTrigger s).otpBuf = s.otpBuf := rfl
@[simp] theorem wakeTrigger_otpValid : (wakeTrigger s).otpValid = s.otpValid := rfl
@[simp] theorem wakeTrigger_violation : (wakeTrigger s).violation = s.violation := rfl
@[simp] theorem wakeTrigger_cs : (wakeTrigger s).cs = false := rfl
@[simp] theorem wakeTrigger_buf : (wakeTrigger s).buf = s.buf := rfl
@[simp] theorem wakeTrigger_idx : (wakeTrigger s).idx = s.idx := rfl
@[simp] theorem wakeTrigger_wovf : (wakeTrigger s).wovf = s.wovf := rfl
@[simp] theorem wakeTrigger_rxEn : (wakeTrigger s).rxEn = s.rxEn := rfl
@[simp] theorem wakeTrigger_df : (wakeTrigger s).df = s.df := rfl
@[simp] theorem wakeTrigger_sessionBase : (wakeTrigger s).sessionBase = s.sessionBase := rfl
@[simp] theorem wakeTrigger_tickPend : (wakeTrigger s).tickPend = s.tickPend := rfl
@[simp] theorem wakeTrigger_hold : (wakeTrigger s).hold = s.hold := rfl
@[simp] theorem wakeTrigger_cp : (wakeTrigger s).cp = s.cp := rfl
@[simp] theorem wakeTrigger_program : (wakeTrigger s).program = s.program := rfl
@[simp] theorem wakeTrigger_faults : (wakeTrigger s).faults = s.faults := rfl
@[simp] theorem wakeTrigger_refused : (wakeTrigger s).refused = s.refused := rfl
@[simp] theorem wakeTrigger_busTrace : (wakeTrigger s).busTrace = s.busTrace ++ [.wake] := rfl
@[simp] theorem wakeTrigger_txTrace : (wakeTrigger s).txTrace = s.txTrace := rfl
@[simp] theorem wakeTrigger_resTrace : (wakeTrigger s).resTrace = s.resTrace := rfl
@[simp] theorem wakeTrigger_writeLog : (wakeTrigger s).writeLog = s.writeLog := rfl
@[simp] theorem wakeTrigger_cfg : (wakeTrigger s).cfg = s.cfg := rfl
@[simp] theorem wakeTrigger_env : (wakeTrigger s).env = s.env := rfl

/-! `openWindow` -/

@[simp] theorem openWindow_drvActive : (openWindow s).drvActive = s.drvActive := rfl
@[simp] theorem openWindow_pwr : (openWindow s).pwr = s.pwr := rfl
@[simp] theorem openWindow_sr1c : (openWindow s).sr1c = s.sr1c := rfl
@[simp] theorem openWindow_sr2c : (openWindow s).sr2c = s.sr2c := rfl
@[simp] theorem openWindow_srValid : (openWindow s).srValid = s.srValid := rfl
@[simp] theorem openWindow_cursor : (openWindow s).cursor = s.cursor := rfl
@[simp] theorem openWindow_otpBuf : (openWindow s).otpBuf = s.otpBuf := rfl
@[simp] theorem openWindow_otpValid : (openWindow s).otpValid = s.otpValid := rfl
@[simp] theorem openWindow_violation : (openWindow s).violation = s.violation := rfl
@[simp] theorem openWindow_cs : (openWindow s).cs = s.cs := rfl
@[simp] theorem openWindow_buf : (openWindow s).buf = s.buf := rfl
@[simp] theorem openWindow_idx : (openWindow s).idx = 0 := rfl
@[simp] theorem openWindow_wovf : (openWindow s).wovf = false := rfl
@[simp] theorem openWindow_rxEn : (openWindow s).rxEn = true := rfl
@[simp] theorem openWindow_df : (openWindow s).df = s.df := rfl
@[simp] theorem openWindow_sessionBase : (openWindow s).sessionBase = s.sessionBase := rfl
@[simp] theorem openWindow_tickPend : (openWindow s).tickPend = s.tickPend := rfl
@[simp] theorem openWindow_hold : (openWindow s).hold = .window := rfl
@[simp] theorem openWindow_cp : (openWindow s).cp = s.cp := rfl
@[simp] theorem openWindow_program : (openWindow s).program = s.program := rfl
@[simp] theorem openWindow_faults : (openWindow s).faults = s.faults := rfl
@[simp] theorem openWindow_refused : (openWindow s).refused = s.refused := rfl
@[simp] theorem openWindow_busTrace : (openWindow s).busTrace = s.busTrace := rfl
@[simp] theorem openWindow_txTrace : (openWindow s).txTrace = s.txTrace ++ [.byte Config.sentinel] := rfl
@[simp] theorem openWindow_resTrace : (openWindow s).resTrace = s.resTrace := rfl
@[simp] theorem openWindow_writeLog : (openWindow s).writeLog = s.writeLog := rfl
@[simp] theorem openWindow_cfg : (openWindow s).cfg = s.cfg := rfl
@[simp] theorem openWindow_env : (openWindow s).env = s.env := rfl

/-! The bits of `DF`. -/

@[simp] theorem DeviceFlags.setMemError_memError (f : DeviceFlags) : f.setMemError.memError = true := rfl
@[simp] theorem DeviceFlags.setMemError_logging (f : DeviceFlags) : f.setMemError.logging = f.logging := rfl
@[simp] theorem DeviceFlags.setMemError_tempError (f : DeviceFlags) : f.setMemError.tempError = f.tempError := rfl
@[simp] theorem DeviceFlags.setMemError_cmdOverflow (f : DeviceFlags) : f.setMemError.cmdOverflow = f.cmdOverflow := rfl
@[simp] theorem DeviceFlags.setMemError_cmdError (f : DeviceFlags) : f.setMemError.cmdError = f.cmdError := rfl
@[simp] theorem DeviceFlags.setTempError_memError (f : DeviceFlags) : f.setTempError.memError = f.memError := rfl
@[simp] theorem DeviceFlags.setTempError_logging (f : DeviceFlags) : f.setTempError.logging = f.logging := rfl
@[simp] theorem DeviceFlags.setTempError_tempError (f : DeviceFlags) : f.setTempError.tempError = true := rfl
@[simp] theorem DeviceFlags.setTempError_cmdOverflow (f : DeviceFlags) : f.setTempError.cmdOverflow = f.cmdOverflow := rfl
@[simp] theorem DeviceFlags.setTempError_cmdError (f : DeviceFlags) : f.setTempError.cmdError = f.cmdError := rfl
@[simp] theorem DeviceFlags.setCmdOverflow_memError (f : DeviceFlags) : f.setCmdOverflow.memError = f.memError := rfl
@[simp] theorem DeviceFlags.setCmdOverflow_logging (f : DeviceFlags) : f.setCmdOverflow.logging = f.logging := rfl
@[simp] theorem DeviceFlags.setCmdOverflow_tempError (f : DeviceFlags) : f.setCmdOverflow.tempError = f.tempError := rfl
@[simp] theorem DeviceFlags.setCmdOverflow_cmdOverflow (f : DeviceFlags) : f.setCmdOverflow.cmdOverflow = true := rfl
@[simp] theorem DeviceFlags.setCmdOverflow_cmdError (f : DeviceFlags) : f.setCmdOverflow.cmdError = f.cmdError := rfl
@[simp] theorem DeviceFlags.setLogging_memError (f : DeviceFlags) (b : Bool) : (f.setLogging b).memError = f.memError := rfl
@[simp] theorem DeviceFlags.setLogging_logging (f : DeviceFlags) (b : Bool) : (f.setLogging b).logging = b := rfl
@[simp] theorem DeviceFlags.setLogging_tempError (f : DeviceFlags) (b : Bool) : (f.setLogging b).tempError = f.tempError := rfl
@[simp] theorem DeviceFlags.setLogging_cmdOverflow (f : DeviceFlags) (b : Bool) : (f.setLogging b).cmdOverflow = f.cmdOverflow := rfl
@[simp] theorem DeviceFlags.setLogging_cmdError (f : DeviceFlags) (b : Bool) : (f.setLogging b).cmdError = f.cmdError := rfl

end Sys2Proof.Machine
end

