-- ==== Sys2Proof/Laws/Bus.lean ====
section
/-! SUPPORT. What each bus operation gives: outcome and reply from the environment's next inputs, and the
state after it as one record (20_memory.md R64 to R70). -/

namespace Sys2Proof.Machine

/-- Every transaction in one equation: only chip select, the trace, the log and the draws change. -/
theorem busTxn_eq {ρ : Type} (cmd : BusCmd) (answer : BusOutcome → Env → ρ × Env) (entry : ρ → Reply) (s : State) :
    busTxn cmd answer entry s =
      ⟨s.env.drawOutcome.1, (answer s.env.drawOutcome.1 s.env.drawOutcome.2).1,
        { s with
          cs := false
          env := (answer s.env.drawOutcome.1 s.env.drawOutcome.2).2
          writeLog := s.writeLog.record s.env.drawOutcome.1 cmd
          busTrace := s.busTrace ++
            [.txn cmd s.env.drawOutcome.1 (entry (answer s.env.drawOutcome.1 s.env.drawOutcome.2).1)] }⟩ := rfl

@[simp] theorem Memory.record_read (m : Memory) (o : BusOutcome) (a : Word) : m.record o (.read a) = m := rfl
@[simp] theorem Memory.record_rdsr1 (m : Memory) (o : BusOutcome) : m.record o .rdsr1 = m := rfl
@[simp] theorem Memory.record_rdsr2 (m : Memory) (o : BusOutcome) : m.record o .rdsr2 = m := rfl
@[simp] theorem Memory.record_wrsr1 (m : Memory) (o : BusOutcome) (v : Byte) : m.record o (.wrsr1 v) = m := rfl
@[simp] theorem Memory.record_udpd (m : Memory) (o : BusOutcome) : m.record o .udpd = m := rfl
@[simp] theorem Memory.record_dpd (m : Memory) (o : BusOutcome) : m.record o .dpd = m := rfl
@[simp] theorem Memory.record_otpRead (m : Memory) (o : BusOutcome) : m.record o .otpRead = m := rfl
@[simp] theorem Memory.record_readId (m : Memory) (o : BusOutcome) : m.record o .readId = m := rfl

/-- The readiness check as a proposition (40_store_driver.md R140). -/
theorem readyForBus_iff (s : State) :
    readyForBus s = true ↔ s.drvActive = true ∧ (s.pwr = .awake ∨ s.pwr = .busy) := by
  simp [readyForBus]

theorem isProtected_iff (p : Params) (b1 b2 : Byte) :
    isProtected p b1 b2 = true ↔ b1 &&& p.sr1ProtMask ≠ 0 ∨ b2 &&& p.sr2ProtMask ≠ 0 := by
  simp [isProtected]

theorem outOfStore_iff (p : Params) (a : Word) : outOfStore p a = true ↔ p.nvmWords ≤ a.toNat := by
  simp [outOfStore]

end Sys2Proof.Machine
end

