-- ==== Sys2Proof/Laws/Moves.lean ====
section
/-! SUPPORT. What a body of the store driver can do, said once (`Moves`), and shown of each body: the
registers it may change, which flags only rise, that chip select ends low, that no transaction is issued
and no power state changes while the driver is not ready. Whole-machine claims cite these lemmas. -/

namespace Sys2Proof.Machine

/-- The transactions of a trace, less the wake triggers. -/
def busTransactions (tr : List BusEvent) : List BusEvent := tr.filter (· ≠ .wake)

/-- Everything a body run inside a request may do to the state. -/
structure Moves (s t : State) : Prop where
  frame : t = { s with
    pwr := t.pwr
    sr1c := t.sr1c
    sr2c := t.sr2c
    srValid := t.srValid
    cursor := t.cursor
    violation := t.violation
    cs := t.cs
    df := t.df
    busTrace := t.busTrace
    txTrace := t.txTrace
    writeLog := t.writeLog
    faults := t.faults
    env := t.env }
  logging : t.df.logging = s.df.logging
  cmdOverflow : t.df.cmdOverflow = s.df.cmdOverflow
  cmdError : t.df.cmdError = s.df.cmdError
  memError : s.df.memError = true → t.df.memError = true
  tempError : s.df.tempError = true → t.df.tempError = true
  violation : s.violation = true → t.violation = true
  cs_low : s.cs = false → t.cs = false
  quiet : readyForBus s = false → t.pwr = s.pwr ∧ busTransactions t.busTrace = busTransactions s.busTrace
  awake : readyForBus s = true → t.pwr ≠ .waking
  bus : s.busTrace <+: t.busTrace
  tx : s.txTrace <+: t.txTrace
  log_wf : s.writeLog.wf = true → t.writeLog.wf = true

/-- A body that writes no word and advances no cursor. -/
structure NoLog (s t : State) : Prop where
  cursor : t.cursor = s.cursor
  writeLog : t.writeLog = s.writeLog

/-- A body that may run SD_LOG once: at most one write, at the cursor, and at most one advance. -/
structure LogsOnce (s t : State) : Prop where
  cursor : t.cursor = s.cursor ∨ t.cursor = s.cursor + 1 ∧ s.cursor.toNat + 1 ≠ s.cfg.nvmWords
  other : ∀ b, b ≠ s.cursor.toNat → t.writeLog.entries b = s.writeLog.entries b

theorem NoLog.refl (s : State) : NoLog s s := ⟨rfl, rfl⟩

theorem NoLog.trans {s t u : State} (h : NoLog s t) (k : NoLog t u) : NoLog s u :=
  ⟨k.cursor.trans h.cursor, k.writeLog.trans h.writeLog⟩

theorem NoLog.once {s t : State} (h : NoLog s t) : LogsOnce s t :=
  ⟨.inl h.cursor, fun b _ => by rw [h.writeLog]⟩

theorem NoLog.then_once {s t u : State} (h : NoLog s t) (hc : t.cfg = s.cfg) (k : LogsOnce t u) : LogsOnce s u := by
  refine ⟨?_, fun b hb => ?_⟩
  · rw [← h.cursor, ← hc]; exact k.cursor
  · rw [k.other b (by rw [h.cursor]; exact hb), h.writeLog]

theorem LogsOnce.then_noLog {s t u : State} (h : LogsOnce s t) (k : NoLog t u) : LogsOnce s u := by
  refine ⟨?_, fun b hb => ?_⟩
  · rw [k.cursor]; exact h.cursor
  · rw [k.writeLog]; exact h.other b hb

section
variable {s t : State} (h : Moves s t)
include h
theorem Moves.drvActive : t.drvActive = s.drvActive := by rw [h.frame]
theorem Moves.otpBuf : t.otpBuf = s.otpBuf := by rw [h.frame]
theorem Moves.otpValid : t.otpValid = s.otpValid := by rw [h.frame]
theorem Moves.buf : t.buf = s.buf := by rw [h.frame]
theorem Moves.idx : t.idx = s.idx := by rw [h.frame]
theorem Moves.wovf : t.wovf = s.wovf := by rw [h.frame]
theorem Moves.rxEn : t.rxEn = s.rxEn := by rw [h.frame]
theorem Moves.sessionBase : t.sessionBase = s.sessionBase := by rw [h.frame]
theorem Moves.tickPend : t.tickPend = s.tickPend := by rw [h.frame]
theorem Moves.hold : t.hold = s.hold := by rw [h.frame]
theorem Moves.cp : t.cp = s.cp := by rw [h.frame]
theorem Moves.program : t.program = s.program := by rw [h.frame]
theorem Moves.refused : t.refused = s.refused := by rw [h.frame]
theorem Moves.resTrace : t.resTrace = s.resTrace := by rw [h.frame]
theorem Moves.cfg : t.cfg = s.cfg := by rw [h.frame]
theorem Moves.currentRequest : t.currentRequest = s.currentRequest := by rw [h.frame]; rfl
end

theorem Moves.refl (s : State) : Moves s s :=
  ⟨rfl, rfl, rfl, rfl, id, id, id, id, fun _ => ⟨rfl, rfl⟩,
    fun h => by rw [readyForBus_iff] at h; rcases h.2 with h | h <;> simp [h],
    List.prefix_refl _, List.prefix_refl _, id⟩

theorem Moves.ready_of_not {s t : State} (h : Moves s t) (hr : readyForBus s = false) : readyForBus t = false := by
  unfold readyForBus at *
  rw [h.drvActive, (h.quiet hr).1]; exact hr

theorem Moves.trans {s t u : State} (h : Moves s t) (k : Moves t u) : Moves s u where
  frame := by
    have h1 := h.frame
    have k1 := k.frame
    rw [h1] at k1
    exact k1
  logging := k.logging.trans h.logging
  cmdOverflow := k.cmdOverflow.trans h.cmdOverflow
  cmdError := k.cmdError.trans h.cmdError
  memError := k.memError ∘ h.memError
  tempError := k.tempError ∘ h.tempError
  violation := k.violation ∘ h.violation
  cs_low := k.cs_low ∘ h.cs_low
  quiet := fun hr => by
    obtain ⟨h1, h2⟩ := h.quiet hr
    obtain ⟨k1, k2⟩ := k.quiet (h.ready_of_not hr)
    exact ⟨k1.trans h1, k2.trans h2⟩
  awake := fun hr => by
    by_cases ht : readyForBus t = true
    · exact k.awake ht
    · rw [(k.quiet (by simpa using ht)).1]; exact h.awake hr
  bus := h.bus.trans k.bus
  tx := h.tx.trans k.tx
  log_wf := k.log_wf ∘ h.log_wf

theorem Moves.flagViolation (s : State) : Moves s s.flagViolation := by
  have := Moves.refl s
  exact { this with
    frame := rfl
    violation := fun _ => rfl }

theorem Moves.setMemError (s : State) : Moves s s.memError := by
  have := Moves.refl s
  exact { this with
    frame := rfl
    memError := fun _ => rfl }

theorem Moves.raise (s : State) (f : Fault) : Moves s (s.raise f) := by
  have := Moves.refl s
  exact { this with
    frame := rfl }

theorem Moves.transmit (s : State) (i : TxItem) : Moves s (s.tx i) := by
  have := Moves.refl s
  exact { this with
    frame := rfl
    tx := List.prefix_append _ _ }

/-- A transaction while the driver is ready, after which the driver may set the cache and the power state. -/
theorem Moves.txn {ρ : Type} (cmd : BusCmd) (answer : BusOutcome → Env → ρ × Env) (entry : ρ → Reply) (s : State)
    (hr : readyForBus s = true) (p : Power) (hp : p ≠ .waking) (b1 b2 : Byte) (v : Bool) :
    Moves s { (busTxn cmd answer entry s).state with pwr := p, sr1c := b1, sr2c := b2, srValid := v } where
  frame := rfl
  logging := rfl
  cmdOverflow := rfl
  cmdError := rfl
  memError := id
  tempError := id
  violation := id
  cs_low := fun _ => rfl
  quiet := fun h => absurd hr (by simp [h])
  awake := fun _ => hp
  bus := List.prefix_append _ _
  tx := List.prefix_refl _
  log_wf := fun h => Memory.wf_record _ _ _ h

theorem ready_not_waking {s : State} (hr : readyForBus s = true) : s.pwr ≠ .waking := by
  rw [readyForBus_iff] at hr
  rcases hr.2 with h | h <;> simp [h]

/-- The status read of SD_REFRESH and SD_LOG. -/
theorem readStatus_moves (s : State) (hr : readyForBus s = true) :
    Moves s (readStatus s).2 ∧ NoLog s (readStatus s).2 ∧ (readStatus s).2.df = s.df ∧
      (readStatus s).2.faults = s.faults := by
  have hw := ready_not_waking hr
  have h1 : Moves s (busRdsr1 s).state := Moves.txn .rdsr1 answerStatus .byte s hr s.pwr hw s.sr1c s.sr2c s.srValid
  have hr1 : readyForBus (busRdsr1 s).state = true := hr
  have key : ∀ (p : Power) (b1 b2 : Byte) (v : Bool), p ≠ .waking →
      Moves s { (busRdsr2 (busRdsr1 s).state).state with pwr := p, sr1c := b1, sr2c := b2, srValid := v } :=
    fun p b1 b2 v hp => h1.trans (Moves.txn .rdsr2 answerStatus .byte _ hr1 p hp b1 b2 v)
  unfold readStatus
  dsimp only
  split
  · exact ⟨key _ _ _ _ (by split <;> simp), ⟨rfl, rfl⟩, rfl, rfl⟩
  · exact ⟨key s.pwr s.sr1c s.sr2c false hw, ⟨rfl, rfl⟩, rfl, rfl⟩

/-- SD_REFRESH's body. -/
theorem refreshBody_moves (s : State) :
    Moves s (refreshBody s).2 ∧ NoLog s (refreshBody s).2 ∧ (refreshBody s).2.df = s.df ∧
      (refreshBody s).2.faults = s.faults := by
  unfold refreshBody
  split
  · next hr =>
    have h := readStatus_moves s hr
    split <;> next heq => rw [heq] at h; exact h
  · exact ⟨Moves.flagViolation s, ⟨rfl, rfl⟩, rfl, rfl⟩

/-- SC_QUIESCE's poll. -/
theorem pollBusy_moves (n : Nat) (s : State) :
    Moves s (pollBusy n s) ∧ NoLog s (pollBusy n s) ∧ (pollBusy n s).df = s.df ∧ (pollBusy n s).faults = s.faults := by
  induction n generalizing s with
  | zero => exact ⟨Moves.refl s, NoLog.refl s, rfl, rfl⟩
  | succ n ih =>
    unfold pollBusy
    split
    · obtain ⟨h1, h2, h3, h4⟩ := refreshBody_moves s
      obtain ⟨k1, k2, k3, k4⟩ := ih (refreshBody s).2
      exact ⟨h1.trans k1, h2.trans k2, k3.trans h3, k4.trans h4⟩
    · exact ⟨Moves.refl s, NoLog.refl s, rfl, rfl⟩

/-- SC_QUIESCE's state is the poll's. -/
theorem quiesceBody_state (s : State) : (quiesceBody s).2 = pollBusy s.cfg.busyPollLimit s := by
  unfold quiesceBody
  dsimp only
  split
  · rfl
  · split <;> rfl

theorem quiesceBody_moves (s : State) :
    Moves s (quiesceBody s).2 ∧ NoLog s (quiesceBody s).2 ∧ (quiesceBody s).2.df = s.df ∧
      (quiesceBody s).2.faults = s.faults := by
  rw [quiesceBody_state]; exact pollBusy_moves _ s

/-- After a quiesce that answers OK the device is awake and the driver owns the bus. -/
theorem quiesceBody_ok (s : State) (h : (quiesceBody s).1 = .ok) :
    (quiesceBody s).2.drvActive = true ∧ (quiesceBody s).2.pwr = .awake := by
  unfold quiesceBody at *
  dsimp only at *
  split
  · next hq => simpa using hq
  · next hq => rw [if_neg hq] at h; split at h <;> simp at h

/-- How a body ends: completed with no fault raised, or faulted with one fault recorded. -/
def Body.Ends {α : Type} (s : State) (P : State → Prop) : Body α → Prop
  | .done _ t => P t ∧ t.faults = s.faults
  | .faulted t => P t ∧ ∃ f, t.faults = s.faults ++ [f]

/-- SD_READ's body. -/
theorem readBody_ends (a : Word) (s : State) :
    (readBody a s).Ends s fun t => Moves s t ∧ NoLog s t := by
  unfold readBody
  split
  · next hr =>
    split
    · exact ⟨⟨Moves.raise s _, ⟨rfl, rfl⟩⟩, _, rfl⟩
    · split
      · exact ⟨⟨Moves.refl s, NoLog.refl s⟩, rfl⟩
      · exact ⟨⟨Moves.txn (.read a) (answerRead s.writeLog a) .word s hr s.pwr (ready_not_waking hr) s.sr1c s.sr2c
          s.srValid, ⟨rfl, rfl⟩⟩, rfl⟩
  · exact ⟨⟨Moves.flagViolation s, ⟨rfl, rfl⟩⟩, rfl⟩

/-- SD_UDPD_ENTER's body. -/
theorem udpdEnterBody_moves (s : State) :
    Moves s (udpdEnterBody s).2 ∧ NoLog s (udpdEnterBody s).2 ∧ (udpdEnterBody s).2.df = s.df ∧
      (udpdEnterBody s).2.faults = s.faults := by
  unfold udpdEnterBody
  split
  · next hr =>
    split
    · exact ⟨Moves.refl s, NoLog.refl s, rfl, rfl⟩
    · exact ⟨Moves.txn _ _ _ s hr .poweredDown (by simp) s.sr1c s.sr2c false, ⟨rfl, rfl⟩, rfl, rfl⟩
  · exact ⟨Moves.flagViolation s, ⟨rfl, rfl⟩, rfl, rfl⟩

/-- SD_LOG's body: at most one write, at the cursor, and one advance. -/
theorem logBody_ends (v : Word) (s : State) :
    (logBody v s).Ends s fun t => Moves s t ∧ LogsOnce s t ∧ t.df = s.df := by
  unfold logBody
  split
  · next hr =>
    obtain ⟨h1, h2, h3, h4⟩ := readStatus_moves s hr
    split
    · next heq => rw [heq] at h1 h2 h3 h4; exact ⟨⟨h1, h2.once, h3⟩, h4⟩
    · next b1 b2 s1 heq =>
      rw [heq] at h1 h2 h3 h4
      dsimp only at h1 h2 h3 h4
      split
      · exact ⟨⟨h1, h2.once, h3⟩, h4⟩
      · have hr1 : readyForBus s1 = true := by
          rw [readyForBus_iff]
          refine ⟨by rw [h1.drvActive]; exact ((readyForBus_iff s).1 hr).1, ?_⟩
          have : s1 = (readStatus s).2 := by rw [heq]
          rw [this]
          unfold readStatus at heq ⊢
          dsimp only at heq ⊢
          split at heq
          · split <;> simp
          · simp at heq
        have hm := Moves.txn (.write s1.cursor v) answerNothing noReply s1 hr1 .busy (by simp) s1.sr1c s1.sr2c false
        unfold advanceCursor
        dsimp only
        split
        · next hc =>
          split at hc
          · cases hc
            refine ⟨⟨h1.trans (hm.trans (Moves.raise _ _)), ⟨.inl h2.cursor, fun b hb => ?_⟩, h3⟩, _, congrArg (· ++ _) h4⟩
            exact (Memory.entries_push_other _ _ b _ (by rw [h2.cursor]; exact hb)).trans (by rw [h2.writeLog])
          · cases hc
        · next hc =>
          split at hc
          · cases hc
          · next hne =>
            cases hc
            refine ⟨⟨h1.trans (hm.trans ?_), ⟨.inr ⟨?_, ?_⟩, fun b hb => ?_⟩, h3⟩, h4⟩
            · exact { Moves.refl _ with
                frame := rfl }
            · exact congrArg (· + 1) h2.cursor
            · have hne' : s1.cursor.toNat + 1 ≠ s1.cfg.nvmWords := hne
              rw [← h2.cursor, ← h1.cfg]; exact hne'
            · exact (Memory.entries_push_other _ _ b _ (by rw [h2.cursor]; exact hb)).trans (by rw [h2.writeLog])
  · exact ⟨⟨Moves.flagViolation s, ⟨.inl rfl, fun _ _ => rfl⟩, rfl⟩, rfl⟩

/-- SC_SAMPLE's body. -/
theorem sampleBody_ends (s : State) :
    (sampleBody s).Ends s fun t => Moves s t ∧ LogsOnce s t := by
  unfold sampleBody
  split
  · dsimp only
    generalize hs1 : ({ s with env := s.env.drawSensor.2, df := _ } : State) = s1
    have hm : Moves s s1 := by
      subst hs1
      exact { Moves.refl s with
        frame := rfl
        logging := by dsimp only; split <;> rfl
        cmdOverflow := by dsimp only; split <;> rfl
        cmdError := by dsimp only; split <;> rfl
        memError := fun h => by dsimp only; split <;> exact h
        tempError := fun h => by dsimp only; split <;> first | exact h | rfl }
    have hn : NoLog s s1 := by subst hs1; exact ⟨rfl, rfl⟩
    have hf : s1.faults = s.faults := by subst hs1; rfl
    have := logBody_ends s.env.drawSensor.1.1 s1
    split
    · next heq =>
      rw [heq] at this
      obtain ⟨⟨h1, h2, -⟩, f, h4⟩ := this
      exact ⟨⟨hm.trans h1, hn.then_once hm.cfg h2⟩, f, by rw [h4, hf]⟩
    · next heq =>
      rw [heq] at this
      obtain ⟨⟨h1, h2, -⟩, h4⟩ := this
      split
      · exact ⟨⟨(hm.trans h1).trans (Moves.setMemError _), (hn.then_once hm.cfg h2).then_noLog ⟨rfl, rfl⟩⟩, h4.trans hf⟩
      · exact ⟨⟨hm.trans h1, hn.then_once hm.cfg h2⟩, h4.trans hf⟩
  · exact ⟨⟨Moves.refl s, (NoLog.refl s).once⟩, rfl⟩

/-- One item of a dump. -/
theorem dumpItem_moves (r : ResultCode × Option Word) (s : State) :
    Moves s (dumpItem r s) ∧ NoLog s (dumpItem r s) ∧ (dumpItem r s).faults = s.faults := by
  obtain ⟨c, w⟩ := r
  unfold dumpItem
  cases w <;> dsimp only <;> split
  · exact ⟨Moves.refl s, NoLog.refl s, rfl⟩
  · exact ⟨Moves.setMemError s, ⟨rfl, rfl⟩, rfl⟩
  · exact ⟨Moves.transmit s _, ⟨rfl, rfl⟩, rfl⟩
  · exact ⟨(Moves.setMemError s).trans (Moves.transmit _ _), ⟨rfl, rfl⟩, rfl⟩

/-- The dump's loop. -/
theorem dumpWords_ends (n a : Nat) (s : State) :
    (dumpWords n a s).Ends s fun t => Moves s t ∧ NoLog s t := by
  induction n generalizing a s with
  | zero => exact ⟨⟨Moves.refl s, NoLog.refl s⟩, rfl⟩
  | succ n ih =>
    have hb := readBody_ends (BitVec.ofNat 16 a) s
    unfold dumpWords
    split
    · next heq => rw [heq] at hb; exact hb
    · next r s1 heq =>
      rw [heq] at hb
      obtain ⟨⟨h1, h2⟩, h3⟩ := hb
      obtain ⟨m1, m2, m3⟩ := dumpItem_moves r s1
      have := ih (a + 1) (dumpItem r s1)
      revert this
      generalize dumpWords n (a + 1) _ = res
      intro this
      cases res with
      | done u t => exact ⟨⟨h1.trans (m1.trans this.1.1), h2.trans (m2.trans this.1.2)⟩, this.2.trans (m3.trans h3)⟩
      | faulted t =>
        obtain ⟨⟨q1, q2⟩, f, q3⟩ := this
        exact ⟨⟨h1.trans (m1.trans q1), h2.trans (m2.trans q2)⟩, f, by rw [q3, m3, h3]⟩

/-- PE_DUMP's body. -/
theorem dumpBody_ends (s : State) : (dumpBody s).Ends s fun t => Moves s t ∧ NoLog s t := by
  obtain ⟨h1, h2, -, h4⟩ := quiesceBody_moves s
  unfold dumpBody
  split
  · next heq =>
    rw [heq] at h1 h2 h4
    dsimp only at h1 h2 h4
    rename_i s1
    have := dumpWords_ends (sessionWords s1) s1.sessionBase.toNat s1
    revert this
    generalize dumpWords _ _ s1 = res
    intro this
    cases res with
    | done u t => exact ⟨⟨h1.trans this.1.1, h2.trans this.1.2⟩, this.2.trans h4⟩
    | faulted t =>
      obtain ⟨⟨q1, q2⟩, f, q3⟩ := this
      exact ⟨⟨h1.trans q1, h2.trans q2⟩, f, by rw [q3, h4]⟩
  · next heq =>
    rw [heq] at h1 h2 h4
    exact ⟨⟨h1.trans (Moves.setMemError _), h2.trans ⟨rfl, rfl⟩⟩, h4⟩

/-- The end of a tick cycle. -/
theorem tickPowerDown_moves (s : State) :
    Moves s (tickPowerDown s) ∧ NoLog s (tickPowerDown s) ∧ (tickPowerDown s).faults = s.faults := by
  obtain ⟨h1, h2, -, h4⟩ := quiesceBody_moves s
  obtain ⟨k1, k2, -, k4⟩ := udpdEnterBody_moves (quiesceBody s).2
  unfold tickPowerDown
  dsimp only
  split
  · split
    · exact ⟨h1.trans k1, h2.trans k2, k4.trans h4⟩
    · exact ⟨(h1.trans k1).trans (Moves.setMemError _), (h2.trans k2).trans ⟨rfl, rfl⟩, k4.trans h4⟩
  · split
    · exact ⟨h1.trans (Moves.setMemError _), h2.trans ⟨rfl, rfl⟩, h4⟩
    · exact ⟨h1, h2, h4⟩

/-- What follows the window in a tick cycle. -/
theorem tickAfterWindow_ends (s : State) :
    (tickAfterWindow s).Ends s fun t => Moves s t ∧ LogsOnce s t := by
  unfold tickAfterWindow
  split
  · obtain ⟨h1, h2, h3⟩ := tickPowerDown_moves s
    exact ⟨⟨h1, h2.once⟩, h3⟩
  · have := sampleBody_ends s
    split
    · next heq => rw [heq] at this; exact this
    · next s1 heq =>
      rw [heq] at this
      obtain ⟨⟨h1, h2⟩, h3⟩ := this
      obtain ⟨k1, k2, k3⟩ := tickPowerDown_moves s1
      exact ⟨⟨h1.trans k1, h2.then_noLog k2⟩, k3.trans h3⟩

end Sys2Proof.Machine
end

