-- ==== Sys2Proof/Laws/Effects.lean ====
section
/-! SUPPORT. What any instruction does, said once (`exec_effect`), and what a step is in terms of it. -/

namespace Sys2Proof.Machine

/-- What a body run inside a request does to the state, dispatch included: everything but control, the
tick and the results stays or only grows. -/
structure BodyEffect (s t : State) : Prop where
  cfg : t.cfg = s.cfg
  program : t.program = s.program
  refused : t.refused = s.refused
  tickPend : t.tickPend = s.tickPend
  rxEn : t.rxEn = s.rxEn
  hold : t.hold = s.hold
  cp : t.cp = s.cp
  drv : t.drvActive = s.drvActive
  otp : t.otpBuf = s.otpBuf
  buf : t.buf = s.buf
  res : t.resTrace = s.resTrace
  cmdError : t.df.cmdError = s.df.cmdError
  ovf : t.df.cmdOverflow = s.df.cmdOverflow
  mem : s.df.memError = true → t.df.memError = true
  temp : s.df.tempError = true → t.df.tempError = true
  viol : s.violation = true → t.violation = true
  cs_low : s.cs = false → t.cs = false
  quiet : readyForBus s = false → t.pwr = s.pwr ∧ busTransactions t.busTrace = busTransactions s.busTrace
  awake : readyForBus s = true → t.pwr ≠ .waking
  bus : s.busTrace <+: t.busTrace
  tx : s.txTrace <+: t.txTrace
  log_wf : s.writeLog.wf = true → t.writeLog.wf = true
  idxw : (t.idx = s.idx ∧ t.wovf = s.wovf) ∨ (t.idx = 0 ∧ t.wovf = false)
  cursor : t.cursor = s.cursor ∨ t.cursor = s.cursor + 1 ∧ s.cursor.toNat + 1 ≠ s.cfg.nvmWords
  other : ∀ b, b ≠ s.cursor.toNat → t.writeLog.entries b = s.writeLog.entries b
  base : (t.sessionBase = s.sessionBase ∧ (t.df.logging = true → s.df.logging = true)) ∨ (s.df.logging = false ∧ t.df.logging = true ∧ t.sessionBase = s.cursor)

theorem BodyEffect.ofMoves {s t} (m : Moves s t) (l : LogsOnce s t) : BodyEffect s t where
  cfg := m.cfg
  program := m.program
  refused := m.refused
  tickPend := m.tickPend
  rxEn := m.rxEn
  hold := m.hold
  cp := m.cp
  drv := m.drvActive
  otp := m.otpBuf
  buf := m.buf
  res := m.resTrace
  cmdError := m.cmdError
  ovf := m.cmdOverflow
  mem := m.memError
  temp := m.tempError
  viol := m.violation
  cs_low := m.cs_low
  quiet := m.quiet
  awake := m.awake
  bus := m.bus
  tx := m.tx
  log_wf := m.log_wf
  idxw := .inl ⟨m.idx, m.wovf⟩
  cursor := l.cursor
  other := l.other
  base := .inl ⟨m.sessionBase, by rw [m.logging]; exact id⟩

theorem BodyEffect.clear {s t} (h : BodyEffect s t) : BodyEffect s t.clearBuffer := { h with idxw := .inr ⟨rfl, rfl⟩ }

theorem BodyEffect.refl (s) : BodyEffect s s := BodyEffect.ofMoves (Moves.refl s) (NoLog.refl s).once

/-- A body that logs may follow one that does not. -/
theorem BodyEffect.then {s t u} (h : BodyEffect s t) (n : NoLog s t) (k : Moves t u) (l : LogsOnce t u) : BodyEffect s u where
  cfg := k.cfg.trans h.cfg
  program := k.program.trans h.program
  refused := k.refused.trans h.refused
  tickPend := k.tickPend.trans h.tickPend
  rxEn := k.rxEn.trans h.rxEn
  hold := k.hold.trans h.hold
  cp := k.cp.trans h.cp
  drv := k.drvActive.trans h.drv
  otp := k.otpBuf.trans h.otp
  buf := k.buf.trans h.buf
  res := k.resTrace.trans h.res
  cmdError := k.cmdError.trans h.cmdError
  ovf := k.cmdOverflow.trans h.ovf
  mem := k.memError ∘ h.mem
  temp := k.tempError ∘ h.temp
  viol := k.violation ∘ h.viol
  cs_low := k.cs_low ∘ h.cs_low
  quiet := fun hr => by
    obtain ⟨h1, h2⟩ := h.quiet hr
    have : readyForBus t = false := by unfold readyForBus at *; rw [h.drv, h1]; exact hr
    obtain ⟨k1, k2⟩ := k.quiet this
    exact ⟨k1.trans h1, k2.trans h2⟩
  awake := fun hr => by
    by_cases ht : readyForBus t = true
    · exact k.awake ht
    · rw [(k.quiet (by simpa using ht)).1]; exact h.awake hr
  bus := h.bus.trans k.bus
  tx := h.tx.trans k.tx
  log_wf := k.log_wf ∘ h.log_wf
  idxw := by rw [k.idx, k.wovf]; exact h.idxw
  cursor := by rw [← n.cursor, ← h.cfg]; exact l.cursor
  other := fun b hb => by rw [← n.writeLog]; exact l.other b (by rw [n.cursor]; exact hb)
  base := by rw [k.sessionBase, k.logging]; exact h.base

/-- PE_DISPATCH's switch; only a `B` or an `E` moves the session state. -/
theorem dispatchSwitch_ends (s : State) : (dispatchSwitch s).Ends s fun t => BodyEffect s t ∧ NoLog s t ∧ (t.df.logging ≠ s.df.logging → s.idx ≠ 0 ∧ (s.buf[0] = 0x42#8 ∨ s.buf[0] = 0x45#8)) := by
  have hrefl : BodyEffect s s ∧ NoLog s s ∧ (s.df.logging ≠ s.df.logging → s.idx ≠ 0 ∧ (s.buf[0] = 0x42#8 ∨ s.buf[0] = 0x45#8)) := ⟨BodyEffect.refl s, NoLog.refl s, fun h => absurd rfl h⟩
  unfold dispatchSwitch
  split
  · exact ⟨hrefl, rfl⟩
  next hi =>
  split
  · exact ⟨hrefl, rfl⟩
  split
  · have := dumpBody_ends s
    revert this
    cases dumpBody s <;> rintro ⟨⟨h1, h2⟩, h3⟩
    · exact ⟨⟨BodyEffect.ofMoves h1 h2.once, h2, fun h => absurd h1.logging h⟩, h3⟩
    · exact ⟨⟨BodyEffect.ofMoves h1 h2.once, h2, fun h => absurd h1.logging h⟩, h3⟩
  split
  · next hb =>
    unfold beginBody; split
    · next hc =>
      simp at hc
      exact ⟨⟨{ BodyEffect.refl s with base := .inr ⟨hc.2, rfl, rfl⟩ }, ⟨rfl, rfl⟩, fun _ => ⟨hi, .inl hb⟩⟩, rfl⟩
    · exact ⟨hrefl, rfl⟩
  split
  · next hb =>
    unfold endBody; split
    · next hc =>
      simp at hc
      exact ⟨⟨{ BodyEffect.refl s with base := .inl ⟨rfl, by simp [DeviceFlags.setLogging]⟩ }, ⟨rfl, rfl⟩, fun _ => ⟨hi, .inr hb⟩⟩, rfl⟩
    · exact ⟨hrefl, rfl⟩
  · exact ⟨hrefl, rfl⟩

/-- PE_DISPATCH's body. -/
theorem dispatchBody_ends (s : State) : (dispatchBody s).Ends s fun t => BodyEffect s t ∧ NoLog s t ∧ (t.df.logging ≠ s.df.logging → s.idx ≠ 0 ∧ (s.buf[0] = 0x42#8 ∨ s.buf[0] = 0x45#8)) := by
  have := dispatchSwitch_ends s
  unfold dispatchBody
  revert this
  cases dispatchSwitch s <;> rintro ⟨⟨h1, h2, h3⟩, h4⟩
  · exact ⟨⟨h1.clear, ⟨h2.cursor, h2.writeLog⟩, h3⟩, h4⟩
  · exact ⟨⟨h1, h2, h3⟩, h4⟩

/-- What an instruction does to the state, whatever the state: sticky bits and traces only grow, chip
select ends low, no transaction is issued while the device is down, the cursor moves by one at most. -/
structure InstrEffect (s t : State) : Prop where
  cfg : t.cfg = s.cfg
  program : t.program = s.program
  refused : t.refused = s.refused
  cmdError : t.df.cmdError = s.df.cmdError
  ovf : s.df.cmdOverflow = true → t.df.cmdOverflow = true
  mem : s.df.memError = true → t.df.memError = true
  temp : s.df.tempError = true → t.df.tempError = true
  viol : s.violation = true → t.violation = true
  faults : t.faults = s.faults ∨ ∃ f, t.faults = s.faults ++ [f]
  cs_low : s.cs = false → t.cs = false
  quiet : s.pwr = .poweredDown ∨ s.pwr = .waking → (s.hold = .settle → s.pwr = .waking) → busTransactions t.busTrace = busTransactions s.busTrace
  waking : s.pwr = .waking → t.pwr = .waking
  bus : s.busTrace <+: t.busTrace
  tx : s.txTrace <+: t.txTrace
  res : s.resTrace <+: t.resTrace
  log_wf : s.writeLog.wf = true → t.writeLog.wf = true
  idx_le : s.idx.toNat ≤ 16 → t.idx.toNat ≤ 16
  wovf_full : s.idx.toNat ≤ 16 → (s.wovf = true → s.idx.toNat = 16 ∧ s.df.cmdOverflow = true) → (t.wovf = true → t.idx.toNat = 16 ∧ t.df.cmdOverflow = true)
  otp : s.cfg.wf = true → s.otpBuf.length = s.cfg.otpLen → t.otpBuf.length = t.cfg.otpLen
  cursor : t.cursor = s.cursor ∨ t.cursor = s.cursor + 1 ∧ s.cursor.toNat + 1 ≠ s.cfg.nvmWords
  base : (t.sessionBase = s.sessionBase ∧ (t.df.logging = true → s.df.logging = true)) ∨ (s.df.logging = false ∧ t.df.logging = true ∧ t.sessionBase = s.cursor)

theorem not_ready_of_down {s : State} (h : s.pwr = .poweredDown ∨ s.pwr = .waking) : readyForBus s = false := by
  unfold readyForBus; rcases h with h | h <;> simp [h]

theorem InstrEffect.ofW {s t} (w : BodyEffect s t) (f : t.faults = s.faults ∨ ∃ f, t.faults = s.faults ++ [f]) : InstrEffect s t where
  cfg := w.cfg
  program := w.program
  refused := w.refused
  cmdError := w.cmdError
  ovf := by rw [w.ovf]; exact id
  mem := w.mem
  temp := w.temp
  viol := w.viol
  faults := f
  cs_low := w.cs_low
  quiet := fun h _ => (w.quiet (not_ready_of_down h)).2
  waking := fun h => by rw [(w.quiet (not_ready_of_down (.inr h))).1, h]
  bus := w.bus
  tx := w.tx
  res := by rw [w.res]
  log_wf := w.log_wf
  idx_le := by rcases w.idxw with ⟨h, _⟩ | ⟨h, _⟩ <;> rw [h]; exact id; intro _; decide
  wovf_full := by
    rcases w.idxw with ⟨h, h'⟩ | ⟨h, h'⟩ <;> rw [h, h', w.ovf]
    · intro _; exact id
    · simp
  otp := by rw [w.otp, w.cfg]; exact fun _ => id
  cursor := w.cursor
  base := w.base

theorem InstrEffect.finish {s t} (h : InstrEffect s t) (r) : InstrEffect s (t.finish r) :=
  { h with res := h.res.trans (List.prefix_append _ _) }

theorem InstrEffect.setHold {s t} (h : InstrEffect s t) (x) : InstrEffect s (t.setHold x) := { h with }

theorem InstrEffect.refl (s : State) : InstrEffect s s := InstrEffect.ofW (BodyEffect.refl s) (.inl rfl)

/-- Every next state of an outcome. -/
def Nexts (o : Host.Outcome State Fault Refusal) (P : State → Prop) : Prop := ∀ t, o = .next t → P t

theorem nexts_next {t : State} {P} (h : P t) : Nexts (.next t) P := by intro u hu; cases hu; exact h

theorem nexts_complete {t : State} {P} {r} (h : P (t.finish r)) : Nexts (complete r t) P := nexts_next h

theorem nexts_body {α} {s : State} {f : α → Result} {b : Body α} {P : State → Prop} {Q}
   (hb : b.Ends s P) (h1 : ∀ t r, P t → t.faults = s.faults → Q (t.finish r)) (h2 : ∀ t, P t → (∃ f, t.faults = s.faults ++ [f]) → Q t) : Nexts (completeBody f b) Q := by
  cases b with
  | done r t => exact nexts_complete (h1 _ _ hb.1 hb.2)
  | faulted t => exact nexts_next (h2 _ hb.1 hb.2)

theorem InstrEffect.ofM {s t} (m : Moves s t) (l : NoLog s t) (f : t.faults = s.faults) : InstrEffect s t := InstrEffect.ofW (BodyEffect.ofMoves m l.once) (.inl f)

theorem nexts_ends {α} {s : State} {f : α → Result} {b : Body α} (hb : b.Ends s (BodyEffect s)) : Nexts (completeBody f b) (InstrEffect s) :=
  nexts_body hb (fun _ _ h1 h2 => (InstrEffect.ofW h1 (.inl h2)).finish _) (fun _ h1 h2 => InstrEffect.ofW h1 (.inr h2))

theorem Body.Ends.imp {α} {s : State} {b : Body α} {P Q : State → Prop} (h : b.Ends s P) (i : ∀ t, P t → Q t) : b.Ends s Q := by
  cases b <;> exact ⟨i _ h.1, h.2⟩

theorem sampleBody_effect (s : State) : (sampleBody s).Ends s (BodyEffect s) := Body.Ends.imp (sampleBody_ends s) fun _ h => BodyEffect.ofMoves h.1 h.2

/-- A transaction while the driver is ready. -/
theorem txn_moves {ρ} (cmd : BusCmd) (answer : BusOutcome → Env → ρ × Env) (entry) {s : State} (hr : readyForBus s = true) :
   Moves s (busTxn cmd answer entry s).state := Moves.txn cmd answer entry s hr s.pwr (ready_not_waking hr) s.sr1c s.sr2c s.srValid

theorem readIdBody_moves (s : State) : Moves s (readIdBody s).2 ∧ NoLog s (readIdBody s).2 ∧ (readIdBody s).2.faults = s.faults := by
  unfold readIdBody; split
  · next hr => split
               · exact ⟨Moves.refl s, NoLog.refl s, rfl⟩
               · exact ⟨txn_moves .readId (answerConstant s.cfg.deviceId s.cfg.idLen) .bytes hr, ⟨rfl, rfl⟩, rfl⟩
  · exact ⟨Moves.flagViolation s, ⟨rfl, rfl⟩, rfl⟩

/-- SD_WRITE's body: at most one write, at its address. -/
theorem writeBody_ends (a v : Word) (s : State) : (writeBody a v s).Ends s fun t => Moves s t ∧ t.cursor = s.cursor ∧ ∀ b, b ≠ a.toNat → t.writeLog.entries b = s.writeLog.entries b := by
  have hr' : Moves s s ∧ s.cursor = s.cursor ∧ ∀ b, b ≠ a.toNat → s.writeLog.entries b = s.writeLog.entries b := ⟨Moves.refl s, rfl, fun _ _ => rfl⟩
  unfold writeBody
  split
  · next hr =>
    split
    · exact ⟨⟨Moves.raise s _, rfl, fun _ _ => rfl⟩, _, rfl⟩
    · split
      · exact ⟨hr', rfl⟩
      · split
        · exact ⟨hr', rfl⟩
        · refine ⟨⟨Moves.txn _ _ _ s hr .busy (by simp) s.sr1c s.sr2c false, rfl, ?_⟩, rfl⟩
          intro b hb
          exact Memory.entries_push_other _ _ _ _ hb
  · exact ⟨⟨Moves.flagViolation s, rfl, fun _ _ => rfl⟩, rfl⟩

theorem InstrEffect.ofMc {s t} (m : Moves s t) (c : t.cursor = s.cursor) (f : t.faults = s.faults ∨ ∃ f, t.faults = s.faults ++ [f]) : InstrEffect s t where
  cfg := m.cfg
  program := m.program
  refused := m.refused
  cmdError := m.cmdError
  ovf := by rw [m.cmdOverflow]; exact id
  mem := m.memError
  temp := m.tempError
  viol := m.violation
  faults := f
  cs_low := m.cs_low
  quiet := fun h _ => (m.quiet (not_ready_of_down h)).2
  waking := fun h => by rw [(m.quiet (not_ready_of_down (.inr h))).1, h]
  bus := m.bus
  tx := m.tx
  res := by rw [m.resTrace]
  log_wf := m.log_wf
  idx_le := by rw [m.idx]; exact id
  wovf_full := by rw [m.idx, m.wovf, m.cmdOverflow]; exact fun _ => id
  otp := by rw [m.otpBuf, m.cfg]; exact fun _ => id
  cursor := .inl c
  base := .inl ⟨m.sessionBase, by rw [m.logging]; exact id⟩

/-- A tick cycle's end. -/
theorem nexts_tickAfterDispatch {s : State} {b : Body Unit} (hb : b.Ends s fun t => BodyEffect s t ∧ NoLog s t) : Nexts (tickAfterDispatch b) (InstrEffect s) := by
  unfold tickAfterDispatch
  cases b with
  | faulted t => exact nexts_next (InstrEffect.ofW hb.1.1 (.inr hb.2))
  | done u t =>
    obtain ⟨⟨h1, h2⟩, h3⟩ := hb
    dsimp only
    refine nexts_body (tickAfterWindow_ends t) (fun u r h h' => (InstrEffect.ofW (h1.then h2 h.1 h.2) (.inl (h'.trans h3))).finish _) (fun u h h' => InstrEffect.ofW (h1.then h2 h.1 h.2) (.inr (by rw [← h3]; exact h')))

theorem InstrEffect.unhold {s t} (h : InstrEffect (s.setHold .none) t) (hq : s.pwr = .poweredDown ∨ s.pwr = .waking → (s.hold = .settle → s.pwr = .waking) → busTransactions t.busTrace = busTransactions s.busTrace) : InstrEffect s t := { h with quiet := hq }

theorem InstrEffect.unhold' {s t} (h : InstrEffect (s.setHold .none) t) : InstrEffect s t := { h with quiet := fun a _ => h.quiet a (by intro hh; simp at hh) }

/-- A host command, inside a tick cycle or not. -/
theorem nexts_hostCommand {b : State → Body Unit} {s : State} (hb : ∀ s : State, (b s).Ends s fun t => BodyEffect s t ∧ NoLog s t) : Nexts (hostCommand b s) (InstrEffect s) := by
  have h := hb (s.setHold .none)
  have h' : (clearAfter (b (s.setHold .none))).Ends (s.setHold .none) fun t => BodyEffect (s.setHold .none) t ∧ NoLog (s.setHold .none) t := by
    revert h
    cases b (s.setHold .none) <;> rintro ⟨⟨h1, h2⟩, h3⟩
    · exact ⟨⟨h1.clear, ⟨h2.cursor, h2.writeLog⟩⟩, h3⟩
    · exact ⟨⟨h1, h2⟩, h3⟩
  unfold hostCommand
  dsimp only
  split
  · exact fun t ht => (nexts_tickAfterDispatch h' t ht).unhold'
  · exact fun t ht => (nexts_ends (Body.Ends.imp h' fun _ h => h.1) t ht).unhold'

theorem beginBody_effect (ts) (s : State) : BodyEffect s (beginBody ts s) ∧ NoLog s (beginBody ts s) ∧ (beginBody ts s).faults = s.faults := by
  unfold beginBody; split
  · next hc =>
    simp at hc
    exact ⟨{ BodyEffect.refl s with base := .inr ⟨hc.2, rfl, rfl⟩ }, ⟨rfl, rfl⟩, rfl⟩
  · exact ⟨BodyEffect.refl s, ⟨rfl, rfl⟩, rfl⟩

theorem endBody_effect (ts) (s : State) : BodyEffect s (endBody ts s) ∧ NoLog s (endBody ts s) ∧ (endBody ts s).faults = s.faults := by
  unfold endBody; split
  · exact ⟨{ BodyEffect.refl s with base := .inl ⟨rfl, by simp [DeviceFlags.setLogging]⟩ }, ⟨rfl, rfl⟩, rfl⟩
  · exact ⟨BodyEffect.refl s, ⟨rfl, rfl⟩, rfl⟩

theorem appendBody_effect (c) (s : State) : InstrEffect s (appendBody c s) := by
  unfold appendBody
  split
  · next h =>
    refine { InstrEffect.refl s with idx_le := ?_, wovf_full := ?_ }
    · intro _; simp [BitVec.toNat_add]; omega
    · intro _ hw h1; have := (hw h1).1; omega
  · next h => exact { InstrEffect.refl s with ovf := fun _ => rfl, wovf_full := fun h1 _ _ => ⟨by simp only; omega, rfl⟩ }

theorem openWindow_effect {s t} (h : InstrEffect s t) : InstrEffect s (openWindow t) :=
  { h with
    tx := h.tx.trans (List.prefix_append _ _)
    idx_le := fun _ => by simp [openWindow, State.clearBuffer, State.tx]
    wovf_full := fun _ _ h => by simp [openWindow, State.clearBuffer, State.tx] at h }

/-- A tick cycle's beginning. -/
theorem tickToWindow_effect (s : State) : Nexts (tickToWindow s) (InstrEffect s) := by
  unfold tickToWindow
  split
  · exact nexts_next (openWindow_effect (InstrEffect.refl s))
  · have := sampleBody_effect s
    revert this
    cases sampleBody s <;> rintro ⟨h1, h2⟩
    · exact nexts_next (openWindow_effect (InstrEffect.ofW h1 (.inl h2)))
    · exact nexts_next (InstrEffect.ofW h1 (.inr h2))

theorem busTransactions_wake (l : List BusEvent) : busTransactions (l ++ [.wake]) = busTransactions l := by
  simp [busTransactions]

/-- SD_UDPD_EXIT_BEGIN's body. -/
theorem udpdExitBody_effect (s : State) : InstrEffect s (udpdExitBody s).2 ∧ (udpdExitBody s).2.hold = s.hold := by
  unfold udpdExitBody
  split
  · split
    · next h => exact ⟨{ InstrEffect.refl s with
                  cs_low := fun _ => rfl
                  waking := fun h' => by rw [h] at h'
                  bus := List.prefix_append _ _
                  quiet := fun _ _ => busTransactions_wake s.busTrace }, rfl⟩
    · exact ⟨InstrEffect.refl s, rfl⟩
  · exact ⟨InstrEffect.ofM (Moves.flagViolation s) ⟨rfl, rfl⟩ rfl, rfl⟩

/-- A transaction that is no WRITE, on a device that is not waking, or at the end of the settling wait. -/
theorem txn_effect {ρ} (cmd : BusCmd) (answer : BusOutcome → Env → ρ × Env) (entry) {s : State} (hw : s.pwr ≠ .waking) (_hc : ∀ a v, cmd ≠ .write a v) (hold : s.pwr = .poweredDown → s.hold = .settle) :
   InstrEffect s (busTxn cmd answer entry s).state where
  cfg := rfl
  program := rfl
  refused := rfl
  cmdError := rfl
  ovf := id
  mem := id
  temp := id
  viol := id
  faults := .inl rfl
  cs_low := fun _ => rfl
  quiet := fun h1 h2 => by rcases h1 with h1 | h1; exact absurd (h2 (hold h1)) hw; exact absurd h1 hw
  waking := fun h => absurd h hw
  bus := List.prefix_append _ _
  tx := List.prefix_refl _
  res := List.prefix_refl _
  log_wf := Memory.wf_record _ _ _
  idx_le := id
  wovf_full := fun _ => id
  otp := fun _ => id
  cursor := .inl rfl
  base := .inl ⟨rfl, id⟩

/-- What any instruction does, in every state. -/
theorem exec_effect (i : Instr) (s : State) : Nexts (exec i s) (InstrEffect s) := by
  have hv := InstrEffect.ofM (Moves.flagViolation s) ⟨rfl, rfl⟩ rfl
  cases i <;> simp only [exec]
  case sdInit =>
    unfold execSdInit; split
    · next hs =>
      split
      · exact nexts_next (InstrEffect.refl s)
      · next hw =>
        apply nexts_complete; apply InstrEffect.finish
        unfold initIdentify; dsimp only
        have hb : InstrEffect s (busReadId { s with hold := .none, drvActive := true }).state := by
          have := txn_effect .readId (answerConstant s.cfg.deviceId s.cfg.idLen) .bytes hw (by simp) (fun _ => hs)
          exact { this with }
        split
        · exact hb
        · exact { hb with mem := fun _ => rfl }
    · split
      · exact nexts_complete (hv.finish _)
      · apply nexts_next
        exact { InstrEffect.refl s with
                  cs_low := fun _ => rfl
                  waking := fun h' => rfl
                  bus := List.prefix_append _ _
                  quiet := fun _ _ => busTransactions_wake _ }
  case sdTerm =>
    unfold execSdTerm; split
    · exact nexts_complete (hv.finish _)
    · next hn =>
      split
      · exact nexts_complete ((InstrEffect.refl s).finish _)
      · split
        · next ha =>
          apply nexts_complete; apply InstrEffect.finish
          have hb := txn_effect .dpd answerNothing noReply (s := s) (by simp [ha]) (by simp) (by simp [ha])
          exact { hb with waking := fun h => by simp [ha] at h }
        · apply nexts_complete; apply InstrEffect.finish
          exact { InstrEffect.refl s with waking := fun h => absurd (Or.inr h) hn }
  case sdWrite a v =>
    exact nexts_body (writeBody_ends a v s) (fun _ _ h1 h2 => (InstrEffect.ofMc h1.1 h1.2.1 (.inl h2)).finish _) (fun _ h1 h2 => InstrEffect.ofMc h1.1 h1.2.1 (.inr h2))
  case sdRead a => exact nexts_ends (Body.Ends.imp (readBody_ends a s) fun _ h => BodyEffect.ofMoves h.1 h.2.once)
  case sdRefresh => obtain ⟨h1, h2, h3, h4⟩ := refreshBody_moves s; exact nexts_complete ((InstrEffect.ofM h1 h2 h4).finish _)
  case sdGetSr1 => exact nexts_complete ((InstrEffect.refl s).finish _)
  case sdGetSr2 => exact nexts_complete ((InstrEffect.refl s).finish _)
  case sdWrSr1 v =>
    unfold execSdWrSr1; split
    · next hr =>
      split
      · exact nexts_complete ((InstrEffect.refl s).finish _)
      · exact nexts_complete ((InstrEffect.ofM (Moves.txn _ _ _ s hr .busy (by simp) s.sr1c s.sr2c false) ⟨rfl, rfl⟩ rfl).finish _)
    · exact nexts_complete (hv.finish _)
  case sdUdpdEnter => obtain ⟨h1, h2, h3, h4⟩ := udpdEnterBody_moves s; exact nexts_complete ((InstrEffect.ofM h1 h2 h4).finish _)
  case sdUdpdExitBegin => exact nexts_complete ((udpdExitBody_effect s).1.finish _)
  case sdLoadOtp =>
    unfold execSdLoadOtp; split
    · next hr =>
      split
      · exact nexts_complete ((InstrEffect.refl s).finish _)
      · have hb := InstrEffect.ofM (txn_moves .otpRead (answerConstant s.cfg.otpContent s.cfg.otpLen) .bytes hr) ⟨rfl, rfl⟩ rfl
        dsimp only; split
        · next ho =>
          apply nexts_complete; apply InstrEffect.finish
          refine { hb with otp := ?_ }
          intro hc _
          have ho' : s.env.drawOutcome.1 = .ok := ho
          have : s.cfg.otpContent.length = s.cfg.otpLen := by
            simp only [Params.wf, Bool.and_eq_true, decide_eq_true_eq] at hc; tauto
          simp [busOtpRead, busTxn_eq, ho', answerConstant, this]
        · exact nexts_complete (hb.finish _)
    · exact nexts_complete (hv.finish _)
  case sdLog v => exact nexts_ends (Body.Ends.imp (logBody_ends v s) fun _ h => BodyEffect.ofMoves h.1 h.2.1)
  case sdReadId => obtain ⟨h1, h2, h4⟩ := readIdBody_moves s; exact nexts_complete ((InstrEffect.ofM h1 h2 h4).finish _)
  case sdPrintId =>
    obtain ⟨h1, h2, h4⟩ := readIdBody_moves s
    unfold execSdPrintId
    split
    · next heq =>
      rw [heq] at h1 h2 h4
      exact nexts_complete ((InstrEffect.ofM (h1.trans (Moves.transmit _ _)) (h2.trans ⟨rfl, rfl⟩) h4).finish _)
    · next heq => rw [heq] at h1 h2 h4; exact nexts_complete ((InstrEffect.ofM h1 h2 h4).finish _)
  case peClear => exact nexts_complete ((InstrEffect.ofW (BodyEffect.refl s).clear (.inl rfl)).finish _)
  case peAppend c => exact nexts_complete ((appendBody_effect c s).finish _)
  case peExchange =>
    unfold execPeExchange; split
    · split
      · exact nexts_next (InstrEffect.refl s)
      · exact fun t ht => (nexts_ends (Body.Ends.imp (dispatchBody_ends _) fun _ h => h.1) t ht).unhold'
    · exact nexts_next (openWindow_effect (InstrEffect.refl s))
  case peDispatch => exact nexts_ends (Body.Ends.imp (dispatchBody_ends _) fun _ h => h.1)
  case peDump => exact nexts_ends (Body.Ends.imp (dumpBody_ends s) fun _ h => BodyEffect.ofMoves h.1 h.2.once)
  case scBegin => exact nexts_complete ((InstrEffect.ofW (beginBody_effect _ s).1 (.inl (beginBody_effect _ s).2.2)).finish _)
  case scEnd => exact nexts_complete ((InstrEffect.ofW (endBody_effect _ s).1 (.inl (endBody_effect _ s).2.2)).finish _)
  case scSample => exact nexts_ends (sampleBody_effect s)
  case scQuiesce => obtain ⟨h1, h2, h3, h4⟩ := quiesceBody_moves s; exact nexts_complete ((InstrEffect.ofM h1 h2 h4).finish _)
  case scTickCycle =>
    unfold execScTickCycle; split
    · split
      · exact nexts_next (InstrEffect.refl s)
      · exact fun t ht => (tickToWindow_effect _ t ht).unhold'
    · split
      · split
        · exact nexts_next (InstrEffect.refl s)
        · exact fun t ht => (nexts_tickAfterDispatch (Body.Ends.imp (dispatchBody_ends _) fun _ h => ⟨h.1, h.2.1⟩) t ht).unhold'
      · unfold tickBegin; dsimp only
        split
        · split
          · exact nexts_next ((udpdExitBody_effect s).1.setHold _)
          · next hdp hw =>
            exfalso
            simp at hdp
            apply hw; simp [udpdExitBody, hdp]
        · split
          · exact nexts_next ((InstrEffect.refl s).setHold _)
          · exact tickToWindow_effect s
  case waitTick =>
    unfold execWaitTick; split
    · exact nexts_complete (InstrEffect.finish (t := { s with tickPend := false, hold := .none }) { InstrEffect.refl s with } _)
    · exact nexts_next ((InstrEffect.refl s).setHold _)
  case waitSettle =>
    unfold execWaitSettle; split
    · exact nexts_next ((InstrEffect.refl s).setHold _)
    · exact nexts_complete (((InstrEffect.refl s).setHold _).finish _)
  case hostD r => exact nexts_hostCommand fun s => Body.Ends.imp (dumpBody_ends s) fun _ h => ⟨BodyEffect.ofMoves h.1 h.2.once, h.2⟩
  case hostB a b => exact nexts_hostCommand fun s => ⟨⟨(beginBody_effect _ s).1, (beginBody_effect _ s).2.1⟩, (beginBody_effect _ s).2.2⟩
  case hostE a b => exact nexts_hostCommand fun s => ⟨⟨(endBody_effect _ s).1, (endBody_effect _ s).2.1⟩, (endBody_effect _ s).2.2⟩

/-! ### The step -/

/-- An event's turn. -/
theorem step_event {s : State} {e : Env} {ev : Event} (h : s.env.drawTurn = (.event ev, e)) :
    step s = .next (applyEvent ev { s with env := e }) := by
  unfold step; rw [h]

/-- The agent's turn. -/
theorem step_agent {s : State} {e : Env} (h : s.env.drawTurn = (.agent, e)) :
    step s = agentTurn { s with env := e } := by
  unfold step; rw [h]

/-- What the agent's turn is while nothing has stopped it. -/
theorem agentTurn_live {s : State} (h1 : s.faults = []) (h2 : s.refused = false) :
    agentTurn s = match s.followGoto.nextAction with
      | .run i => exec i s.followGoto
      | .refuse => .next s.followGoto.refuse
      | .idle => .next s := by
  unfold agentTurn
  split
  · next h => rw [h1] at h; simp at h
  · rw [h2]; rfl

/-- The goto of FW_MAIN moves `CP` alone. -/
theorem followGoto_frame (s : State) : s.followGoto = { s with cp := s.followGoto.cp } := by
  unfold State.followGoto; split
  · split <;> rfl
  · rfl

/-- The goto is taken only past the last word. -/
theorem followGoto_of_fetch {s : State} {w : ReqWord} (h : s.fetchWord = some w) : s.followGoto = s := by
  unfold State.followGoto
  split
  · split
    · next hc => unfold State.fetchWord at h; rw [hc] at h; simp at h
    · rfl
  · rfl

/-- The word that spells the request at `CP`. -/
theorem fetchWord_of_currentRequest {s : State} {i : Instr} (h : s.currentRequest = some i) :
    ∃ w, s.fetchWord = some w ∧ decodeRequest w = .ok i := by
  unfold State.currentRequest at h
  rcases hf : s.fetchWord with _ | w
  · rw [hf] at h; simp at h
  · rw [hf] at h
    refine ⟨w, rfl, ?_⟩
    simp only [Option.bind_some] at h
    rcases hd : decodeRequest w with e | j
    · rw [hd] at h; simp [Except.toOption] at h
    · rw [hd] at h; simp [Except.toOption] at h; rw [h]

/-- What an event can change. -/
theorem applyEvent_frame (ev : Event) (s : State) :
    ∃ b i w r d tp p,
      applyEvent ev s =
        { s with buf := b, idx := i, wovf := w, rxEn := r, df := d, tickPend := tp, pwr := p } ∧
      (d = s.df ∨ d = { s.df with cmdOverflow := true }) ∧
      (p = s.pwr ∨ s.pwr = .waking ∧ p = .awake ∧ ev = .settled) := by
  cases ev with
  | rx c =>
    simp only [applyEvent, eventRx]; split
    · unfold appendBody; split
      · exact ⟨_, _, _, _, _, _, _, rfl, .inl rfl, .inl rfl⟩
      · exact ⟨_, _, _, _, _, _, _, rfl, .inr rfl, .inl rfl⟩
    · exact ⟨_, _, _, _, _, _, _, rfl, .inl rfl, .inl rfl⟩
  | tick => exact ⟨_, _, _, _, _, _, _, rfl, .inl rfl, .inl rfl⟩
  | timeout =>
    simp only [applyEvent, eventTimeout]; split
    · exact ⟨_, _, _, _, _, _, _, rfl, .inl rfl, .inl rfl⟩
    · exact ⟨_, _, _, _, _, _, _, rfl, .inl rfl, .inl rfl⟩
  | settled =>
    simp only [applyEvent, eventSettled]; split
    · next h => exact ⟨_, _, _, _, _, _, _, rfl, .inl rfl, .inr ⟨h, rfl, by trivial⟩⟩
    · exact ⟨_, _, _, _, _, _, _, rfl, .inl rfl, .inl rfl⟩

end Sys2Proof.Machine
end

