-- ==== Sys2Proof/Laws/Bodies.lean ====
section
/-! SUPPORT. The shared bodies as equations: the status read, the decline flags, the timestamp check, the
quiesce, the dump. -/

namespace Sys2Proof.Machine

/-- SD_LOG's decline flags as the two bits they are (40_store_driver.md R153). -/
theorem declineFlags_eq (p : Params) (b1 b2 : Byte) :
    declineFlags p b1 b2 =
      (if b1.getLsbD p.srBusyBit = true then 0x01 else 0x00) |||
        (if b1 &&& p.sr1ProtMask ≠ 0 ∨ b2 &&& p.sr2ProtMask ≠ 0 then 0x02 else 0x00) := by
  simp only [declineFlags, isBusy, flagBusy, flagWriteProtect, isProtected_iff]; congr

/-- The status read, its four draws named (R145). -/
theorem readStatus_eq {s : State} {o1 o2 : BusOutcome} {b1 b2 : Byte} {e1 e2 e3 e4 : Env}
    (h1 : s.env.drawOutcome = (o1, e1)) (h2 : e1.drawStatus = (b1, e2))
    (h3 : e2.drawOutcome = (o2, e3)) (h4 : e3.drawStatus = (b2, e4)) :
    readStatus s =
      if o1 = .ok ∧ o2 = .ok then
        (some (b1, b2),
          { s with
            cs := false
            env := e4
            busTrace := s.busTrace ++ [.txn .rdsr1 o1 (.byte b1)] ++ [.txn .rdsr2 o2 (.byte b2)]
            sr1c := b1
            sr2c := b2
            srValid := true
            pwr := if b1.getLsbD s.cfg.srBusyBit = true then .busy else .awake })
      else
        (none,
          { s with
            cs := false
            env := e4
            busTrace := s.busTrace ++ [.txn .rdsr1 o1 (.byte b1)] ++ [.txn .rdsr2 o2 (.byte b2)]
            srValid := false }) := by
  unfold readStatus
  simp only [busRdsr1, busRdsr2, busTxn_eq, answerStatus, h1, h2, h3, h4]
  cases o1 <;> cases o2 <;> simp [isBusy] <;> congr

/-- The timestamp cells of the buffer are 14. -/
theorem timestampCells_length (b : Vector Byte 16) : (timestampCells b).length = 14 := by
  simp [timestampCells]

/-- A timestamp is valid when each of its 14 characters is a digit (30_encoding.md R107). -/
theorem validTimestamp_iff {ts : List Byte} (h : ts.length = 14) :
    validTimestamp ts = true ↔ ∀ c ∈ ts, 0x30#8 ≤ c ∧ c ≤ 0x39#8 := by
  simp [validTimestamp, h, Config.timestampLength, isDigit]

/-- The poll does nothing to a device that is not busy. -/
theorem pollBusy_of_not_busy (n : Nat) {s : State} (h : s.pwr ≠ .busy) : pollBusy n s = s := by
  cases n <;> simp [pollBusy, h]

/-- Quiescing an awake device issues nothing (42_session_controller.md R214). -/
theorem quiesceBody_awake {s : State} (h1 : s.drvActive = true) (h2 : s.pwr = .awake) :
    quiesceBody s = (.ok, s) := by
  simp [quiesceBody, pollBusy_of_not_busy, h1, h2]

/-- A second quiesce adds nothing to a successful one. -/
theorem quiesceBody_again {s : State} (h : (quiesceBody s).1 = .ok) :
    quiesceBody (quiesceBody s).2 = (.ok, (quiesceBody s).2) := by
  obtain ⟨h1, h2⟩ := quiesceBody_ok s h
  exact quiesceBody_awake h1 h2

/-- A dump of a device that cannot be quieted sends nothing (41_protocol_engine.md R186). -/
theorem dumpBody_not_quiet {s : State} (h : (quiesceBody s).1 ≠ .ok) :
    dumpBody s = .done () (quiesceBody s).2.memError := by
  unfold dumpBody
  split
  · next heq => rw [heq] at h; simp at h
  · next heq => rw [heq]

/-- When dispatch discards for overflow (R185). -/
theorem overflowDiscards_iff (s : State) :
    overflowDiscards s = true ↔
      (s.cfg.ovfDiscardScope = .window ∧ s.wovf = true ∨
        s.cfg.ovfDiscardScope = .sticky ∧ s.df.cmdOverflow = true) := by
  simp [overflowDiscards, and_comm]

end Sys2Proof.Machine
end

