-- ==== Sys2Proof/Laws/Decode.lean ====
section
/-! SUPPORT. The fields of request words: what the encoder writes is what the decoder reads. -/

namespace Sys2Proof

/-- The fields of a request word read back as they were written (30_encoding.md R101). -/
@[simp] theorem reqOp_reqWord (op : Byte) (a v : Word) : reqOp (reqWord op a v) = op := by
  ext i hi
  simp only [reqOp, reqWord, BitVec.getElem_extractLsb', BitVec.getLsbD_append]
  rw [if_neg (by omega), if_neg (by omega), BitVec.getLsbD_eq_getElem (by omega)]
  congr 1; omega

@[simp] theorem reqA_reqWord (op : Byte) (a v : Word) : reqA (reqWord op a v) = a := by
  ext i hi
  simp only [reqA, reqWord, BitVec.getElem_extractLsb', BitVec.getLsbD_append]
  rw [if_neg (by omega), if_pos (by omega), BitVec.getLsbD_eq_getElem (by omega)]
  congr 1; omega

@[simp] theorem reqV_reqWord (op : Byte) (a v : Word) : reqV (reqWord op a v) = v := by
  ext i hi
  simp only [reqV, reqWord, BitVec.getElem_extractLsb', BitVec.getLsbD_append]
  rw [if_pos (by omega), BitVec.getLsbD_eq_getElem (by omega)]
  congr 1; omega

/-- Bit by bit, what a byte and a request word are. -/
theorem byteField_getLsbD (b : Byte) (i : Nat) :
    (byteField b).getLsbD i = if i < 8 then b.getLsbD i else (0#8).getLsbD (i - 8) :=
  BitVec.getLsbD_append

theorem reqWord_getLsbD (op : Byte) (a v : Word) (i : Nat) :
    (reqWord op a v).getLsbD i =
      if i < 16 then v.getLsbD i else if i - 16 < 16 then a.getLsbD (i - 16) else op.getLsbD (i - 16 - 16) := by
  show ((op ++ a : BitVec (8 + 16)) ++ v : BitVec (8 + 16 + 16)).getLsbD i = _
  rw [BitVec.getLsbD_append, BitVec.getLsbD_append]

/-- An 8-bit operand fills `V[7:0]` and leaves `V[15:8]` 0 (R102). -/
@[simp] theorem highByte_byteField (b : Byte) : highByte (byteField b) = 0 := by
  ext i hi
  rw [highByte, BitVec.getElem_extractLsb', byteField_getLsbD, if_neg (by omega)]
  simp

@[simp] theorem lowByte_byteField (b : Byte) : lowByte (byteField b) = b := by
  ext i hi
  rw [lowByte, BitVec.getElem_extractLsb', byteField_getLsbD, if_pos (by omega), BitVec.getLsbD_eq_getElem (by omega)]
  congr 1; omega

/-- A request word is its three fields. -/
theorem reqWord_fields (w : ReqWord) : reqWord (reqOp w) (reqA w) (reqV w) = w := by
  apply BitVec.eq_of_getLsbD_eq
  intro i hi
  rw [reqWord_getLsbD]
  simp only [reqOp, reqA, reqV, BitVec.getLsbD_extractLsb']
  split
  · simp_all
  · split
    · simp_all
    · have h1 : i - 16 - 16 < 8 := by omega
      simp only [h1, decide_true, Bool.true_and]; congr 1; omega

/-- A value with `V[15:8] = 0` is its low byte. -/
theorem byteField_lowByte (v : Word) (h : highByte v = 0) : byteField (lowByte v) = v := by
  apply BitVec.eq_of_getLsbD_eq
  intro i hi
  rw [byteField_getLsbD]
  split
  · next h8 => simp [lowByte, h8]
  · next h8 =>
    have h2 : (highByte v).getLsbD (i - 8) = (0#8).getLsbD (i - 8) := by rw [h]; rfl
    rw [← h2, highByte, BitVec.getLsbD_extractLsb']
    have h1 : i - 8 < 8 := by omega
    simp only [h1, decide_true, Bool.true_and]; congr 1; omega

end Sys2Proof
end

