-- ==== Sys2Proof/Laws/PerInstr.lean ====
section
/-! SUPPORT. The per-instruction family `EncodeShape`: a well-formed instruction's code is a request word or
a 16-byte frame that begins with its row's opcode byte. -/

namespace Sys2Proof.Laws.EncodeShape

/-- The first byte of each row of opcode_table.json: OP of a request, byte 0 of a host command. -/
def opcodeByte : Instr → Byte
  | .sdInit => 0x01
  | .sdTerm => 0x02
  | .sdWrite _ _ => 0x03
  | .sdRead _ => 0x04
  | .sdRefresh => 0x05
  | .sdGetSr1 => 0x06
  | .sdGetSr2 => 0x07
  | .sdWrSr1 _ => 0x08
  | .sdUdpdEnter => 0x09
  | .sdUdpdExitBegin => 0x0A
  | .sdLoadOtp => 0x0B
  | .sdLog _ => 0x0C
  | .sdReadId => 0x0D
  | .sdPrintId => 0x0E
  | .peClear => 0x20
  | .peAppend _ => 0x21
  | .peExchange => 0x22
  | .peDispatch => 0x23
  | .peDump => 0x24
  | .scBegin => 0x40
  | .scEnd => 0x41
  | .scSample => 0x42
  | .scQuiesce => 0x43
  | .scTickCycle => 0x44
  | .waitTick => 0x60
  | .waitSettle => 0x61
  | .hostD _ => 0x44
  | .hostB _ _ => 0x42
  | .hostE _ _ => 0x45

/-- The code of `i` has the length and the first byte of its row (30_encoding.md R101, R103, R105, R106). -/
def Statement (i : Instr) : Prop :=
  i.wf = true →
    match encode i with
    | .request w => reqOp w = opcodeByte i
    | .frame cells => cells.length = Config.bufferCapacity ∧ cells.head? = some (opcodeByte i)

theorem sdInit : Statement .sdInit := fun _ => reqOp_reqWord _ _ _

theorem sdTerm : Statement .sdTerm := fun _ => reqOp_reqWord _ _ _

theorem sdWrite (a v : Word) : Statement (.sdWrite a v) := fun _ => reqOp_reqWord _ _ _

theorem sdRead (a : Word) : Statement (.sdRead a) := fun _ => reqOp_reqWord _ _ _

theorem sdRefresh : Statement .sdRefresh := fun _ => reqOp_reqWord _ _ _

theorem sdGetSr1 : Statement .sdGetSr1 := fun _ => reqOp_reqWord _ _ _

theorem sdGetSr2 : Statement .sdGetSr2 := fun _ => reqOp_reqWord _ _ _

theorem sdWrSr1 (v : Byte) : Statement (.sdWrSr1 v) := fun _ => reqOp_reqWord _ _ _

theorem sdUdpdEnter : Statement .sdUdpdEnter := fun _ => reqOp_reqWord _ _ _

theorem sdUdpdExitBegin : Statement .sdUdpdExitBegin := fun _ => reqOp_reqWord _ _ _

theorem sdLoadOtp : Statement .sdLoadOtp := fun _ => reqOp_reqWord _ _ _

theorem sdLog (v : Word) : Statement (.sdLog v) := fun _ => reqOp_reqWord _ _ _

theorem sdReadId : Statement .sdReadId := fun _ => reqOp_reqWord _ _ _

theorem sdPrintId : Statement .sdPrintId := fun _ => reqOp_reqWord _ _ _

theorem peClear : Statement .peClear := fun _ => reqOp_reqWord _ _ _

theorem peAppend (c : Byte) : Statement (.peAppend c) := fun _ => reqOp_reqWord _ _ _

theorem peExchange : Statement .peExchange := fun _ => reqOp_reqWord _ _ _

theorem peDispatch : Statement .peDispatch := fun _ => reqOp_reqWord _ _ _

theorem peDump : Statement .peDump := fun _ => reqOp_reqWord _ _ _

theorem scBegin : Statement .scBegin := fun _ => reqOp_reqWord _ _ _

theorem scEnd : Statement .scEnd := fun _ => reqOp_reqWord _ _ _

theorem scSample : Statement .scSample := fun _ => reqOp_reqWord _ _ _

theorem scQuiesce : Statement .scQuiesce := fun _ => reqOp_reqWord _ _ _

theorem scTickCycle : Statement .scTickCycle := fun _ => reqOp_reqWord _ _ _

theorem waitTick : Statement .waitTick := fun _ => reqOp_reqWord _ _ _

theorem waitSettle : Statement .waitSettle := fun _ => reqOp_reqWord _ _ _

theorem hostD (rest : List Byte) : Statement (.hostD rest) := fun h => ⟨by
    have h := of_decide_eq_true h
    simpa [encode, Config.bufferCapacity] using h, rfl⟩

theorem hostB (ts : List Byte) (f : Byte) : Statement (.hostB ts f) := fun h => ⟨by
    have h : ts.length = 14 := of_decide_eq_true h
    simp [h, Config.bufferCapacity], rfl⟩

theorem hostE (ts : List Byte) (f : Byte) : Statement (.hostE ts f) := fun h => ⟨by
    have h : ts.length = 14 := of_decide_eq_true h
    simp [h, Config.bufferCapacity], rfl⟩

end Sys2Proof.Laws.EncodeShape
end

