-- ==== Sys2Proof/Tests/Slice0.lean ====
section
/-! SUPPORT. The model's own tests. Expected values are the spec's: words from 30_encoding.md R101 to R107,
results from 95_test_vectors.md (the vector's id stands in each comment). After them, for each obligation
with hypotheses, a state that meets them. -/

namespace Sys2Proof.Tests

open Sys2Proof.Machine Sys2Proof.Claims

/-! ### Well-formedness: each check refuses an ill-formed term (R105) -/

theorem test_wf_hostD_needs_15_bytes : (Instr.hostD [0x58]).wf = false := by decide

theorem test_wf_hostB_needs_14_bytes : (Instr.hostB (List.replicate 13 0x30) 0x5A).wf = false := by decide

theorem test_wf_hostE_needs_14_bytes : (Instr.hostE (List.replicate 15 0x30) 0x5A).wf = false := by decide

theorem test_wf_accepts_its_frames :
    (Instr.hostD (List.replicate 15 0x58)).wf = true ∧ (Instr.hostB (List.replicate 14 0x30) 0x5A).wf = true ∧
    (Instr.hostE (List.replicate 14 0x30) 0x5A).wf = true ∧ (Instr.sdWrite 0xFFFF 0xFFFF).wf = true := by decide

/-! ### Decoding: words written out from the table of R103 as OP_A_V -/

theorem test_decode_store_driver :
    [0x01_0000_0000, 0x02_0000_0000, 0x03_0010_BEEF, 0x04_1234_0000, 0x05_0000_0000, 0x06_0000_0000,
     0x07_0000_0000, 0x08_0000_000C, 0x09_0000_0000, 0x0A_0000_0000, 0x0B_0000_0000, 0x0C_0000_8001,
     0x0D_0000_0000, 0x0E_0000_0000].map (decodeTableWord 40) =
    [some .sdInit, some .sdTerm, some (.sdWrite 0x0010 0xBEEF), some (.sdRead 0x1234), some .sdRefresh,
     some .sdGetSr1, some .sdGetSr2, some (.sdWrSr1 0x0C), some .sdUdpdEnter, some .sdUdpdExitBegin,
     some .sdLoadOtp, some (.sdLog 0x8001), some .sdReadId, some .sdPrintId] := by decide

theorem test_decode_protocol_engine :
    [0x20_0000_0000, 0x21_0000_0042, 0x22_0000_0000, 0x23_0000_0000, 0x24_0000_0000].map (decodeTableWord 40) =
    [some .peClear, some (.peAppend 0x42), some .peExchange, some .peDispatch, some .peDump] := by decide

theorem test_decode_session_controller :
    [0x40_0000_0000, 0x41_0000_0000, 0x42_0000_0000, 0x43_0000_0000, 0x44_0000_0000].map (decodeTableWord 40) =
    [some .scBegin, some .scEnd, some .scSample, some .scQuiesce, some .scTickCycle] := by decide

/-- V68. -/
theorem test_decode_waits :
    [0x60_0000_0000, 0x61_0000_0000].map (decodeTableWord 40) = [some .waitTick, some .waitSettle] := by decide

/-- The frames of S1 and S2, byte 0 first (R105, R106). -/
theorem test_decode_host_commands :
    decodeFrame (0x44 :: List.replicate 15 0x58) = .ok (.hostD (List.replicate 15 0x58)) ∧
    decodeFrame [0x42, 0x32, 0x30, 0x32, 0x33, 0x30, 0x31, 0x30, 0x31, 0x30, 0x30, 0x30, 0x30, 0x30, 0x30, 0x5A] =
      .ok (.hostB [0x32, 0x30, 0x32, 0x33, 0x30, 0x31, 0x30, 0x31, 0x30, 0x30, 0x30, 0x30, 0x30, 0x30] 0x5A) ∧
    decodeFrame [0x45, 0x32, 0x30, 0x39, 0x39, 0x31, 0x32, 0x33, 0x31, 0x32, 0x33, 0x35, 0x39, 0x35, 0x39, 0x5A] =
      .ok (.hostE [0x32, 0x30, 0x39, 0x39, 0x31, 0x32, 0x33, 0x31, 0x32, 0x33, 0x35, 0x39, 0x35, 0x39] 0x5A) := by
  decide

/-- Byte 0 alone, as opcode_table.json gives a host command's row: the operand bytes are zeros. -/
theorem test_decode_host_rows :
    [0x44, 0x42, 0x45].map (decodeTableWord 8) =
    [some (.hostD (List.replicate 15 0)), some (.hostB (List.replicate 14 0) 0),
     some (.hostE (List.replicate 14 0) 0)] := by decide

/-- V64 to V67; a lowercase `b` (V34b); a frame of 15 bytes. -/
theorem test_decode_refuses :
    [0x0F_0000_0000, 0x01_0000_0001, 0x21_0000_0142, 0x04_0000_0005, 0x00_0000_0000, 0x0C_0001_0000].map
      (decodeTableWord 40) = [none, none, none, none, none, none] ∧
    decodeFrame (0x62 :: List.replicate 15 0x30) = .error .unknownCommand ∧
    decodeFrame (List.replicate 15 0x44) = .error .frameLength := by decide

/-! ### One step -/

/-- Awake start of 95_test_vectors.md, the given status replies and every bus outcome Ok. -/
def awake (sr : List Byte) : State :=
  { State.reset with
    drvActive := true
    pwr := .awake
    env := { State.reset.env with
      busOutcomes := List.replicate 12 .ok
      srReplies := sr
      readReplies := [0xABCD, 0xABCE] } }

/-- The next transactions have these outcomes. -/
def withOutcomes (s : State) (os : List BusOutcome) : State :=
  { s with env := { s.env with busOutcomes := os ++ List.replicate 12 .ok } }

/-- `V9`'s end: a write in progress. -/
def busyAt : State := { awake [] with pwr := .busy, writeLog := [(0x0010, [.wrote 0xBEEF])] }

/-- The next step, with the row `w` fetched, answers a state that satisfies `p`. -/
def runs (nbits w : Nat) (s : State) (p : State → Bool) : Bool :=
  match step (s.withFetchWord nbits w) with
  | .next t => p t
  | .fault _ => false
  | .refused _ => false

/-- V4b: SD_INIT from reset holds at SETTLE, waking. -/
theorem test_sdInit_holds : runs 40 0x0100000000 State.reset (fun t =>
    decide (t.hold = .settle ∧ t.pwr = .waking ∧ t.cp = 0 ∧ t.busTrace = [.wake] ∧ t.resTrace = [])) = true := by
  decide

/-- V4: SD_INIT while active. -/
theorem test_sdInit_twice : runs 40 0x0100000000 (awake []) (fun t =>
    decide (t.resTrace = [.code .notReady] ∧ t.violation = true ∧ t.pwr = .awake ∧ t.busTrace = [])) = true := by
  decide

/-- V3: SD_INIT resumed, READ_ID with outcome Err. -/
theorem test_sdInit_bus_error :
    (match execSdInit (withOutcomes { awake [] with drvActive := false, hold := .settle } [.err]) with
      | .next t => decide (t.resTrace = [.code .deviceNotFound] ∧ t.df.memError = true ∧ t.drvActive = true ∧
          t.pwr = .awake ∧ t.hold = .none)
      | _ => false) = true := by decide

/-- V5, V8. -/
theorem test_sdTerm :
    runs 40 0x0200000000 (awake []) (fun t => decide (t.resTrace = [.code .ok] ∧
      t.busTrace = [.txn .dpd .ok .none] ∧ t.pwr = .poweredDown ∧ t.drvActive = false)) = true ∧
    runs 40 0x0200000000 State.reset (fun t => decide (t.resTrace = [.code .notReady] ∧ t.violation = true)) = true := by
  decide

/-- V9, V10b. -/
theorem test_sdWrite : runs 40 0x030010BEEF { awake [] with sr1c := 0x03 } (fun t =>
    decide (t.resTrace = [.code .ok] ∧ t.busTrace = [.txn (.write 0x0010 0xBEEF) .ok .none] ∧
      t.writeLog = [(0x0010, [.wrote 0xBEEF])] ∧ t.pwr = .busy ∧ t.srValid = false)) = true := by decide

/-- V11b: protection before busy; V13: the address range. -/
theorem test_sdWrite_refuses :
    runs 40 0x0300110001 { busyAt with sr1c := 0x04 } (fun t => decide (t.resTrace = [.code .writeProtected])) = true ∧
    runs 40 0x0300100000 { awake [] with cfg := { Params.vectorBinding with nvmWords := 16 } } (fun t =>
      decide (t.faults = [.addrRange 0x0010] ∧ t.cp = 0 ∧ t.busTrace = [] ∧ t.resTrace = [])) = true := by decide

/-- V15: a known word, and one that is a draw. -/
theorem test_sdRead :
    runs 40 0x0400100000 { busyAt with pwr := .awake } (fun t => decide (t.resTrace = [.word .ok 0xBEEF])) = true ∧
    runs 40 0x0400200000 { busyAt with pwr := .awake } (fun t => decide (t.resTrace = [.word .ok 0xABCD])) = true := by
  decide

/-- S5, V16. -/
theorem test_sdRead_refused :
    runs 40 0x0400000000 { awake [] with pwr := .waking } (fun t =>
      decide (t.resTrace = [.code .notReady] ∧ t.violation = true ∧ t.busTrace = [])) = true ∧
    runs 40 0x0400000000 (withOutcomes (awake []) [.err]) (fun t =>
      decide (t.resTrace = [.word .busError 0xABCD] ∧ t.pwr = .awake ∧ t.cs = false)) = true := by decide

/-- V17b, V17c. -/
theorem test_sdRefresh :
    runs 40 0x0500000000 (awake [0x01, 0x00]) (fun t =>
      decide (t.resTrace = [.code .ok] ∧ t.pwr = .busy ∧ t.sr1c = 0x01 ∧ t.srValid = true)) = true ∧
    runs 40 0x0500000000 (withOutcomes { awake [0x04, 0x00] with srValid := true } [.ok, .err]) (fun t =>
      decide (t.resTrace = [.code .busError] ∧ t.sr1c = 0x00 ∧ t.srValid = false ∧
        t.busTrace = [.txn .rdsr1 .ok (.byte 0x04), .txn .rdsr2 .err (.byte 0x00)])) = true := by decide

/-- V18, V18b. -/
theorem test_cache_reads :
    runs 40 0x0600000000 { State.reset with sr1c := 0x0C, sr2c := 0x80 } (fun t =>
      decide (t.resTrace = [.byte .ok 0x0C] ∧ t.violation = false)) = true ∧
    runs 40 0x0700000000 { State.reset with sr1c := 0x0C, sr2c := 0x80 } (fun t =>
      decide (t.resTrace = [.byte .ok 0x80] ∧ t.busTrace = [])) = true := by decide

/-- V19, V18b: the cached byte stays. -/
theorem test_sdWrSr1 : runs 40 0x080000000C { awake [] with sr1c := 0x01, srValid := true } (fun t =>
    decide (t.resTrace = [.code .ok] ∧ t.busTrace = [.txn (.wrsr1 0x0C) .ok .none] ∧ t.pwr = .busy ∧
      t.srValid = false ∧ t.sr1c = 0x01)) = true := by decide

/-- V20d, V20b. -/
theorem test_sdUdpdEnter :
    runs 40 0x0900000000 (withOutcomes (awake []) [.err]) (fun t =>
      decide (t.resTrace = [.code .busError] ∧ t.pwr = .poweredDown)) = true ∧
    runs 40 0x0900000000 { awake [] with pwr := .poweredDown } (fun t =>
      decide (t.resTrace = [.code .notReady] ∧ t.violation = true ∧ t.busTrace = [])) = true := by decide

/-- V21a, V21b. -/
theorem test_sdUdpdExitBegin :
    runs 40 0x0A00000000 { awake [] with pwr := .poweredDown } (fun t =>
      decide (t.resTrace = [.code .ok] ∧ t.busTrace = [.wake] ∧ t.pwr = .waking ∧ t.hold = .none)) = true ∧
    runs 40 0x0A00000000 (awake []) (fun t =>
      decide (t.resTrace = [.code .ok] ∧ t.busTrace = [] ∧ t.pwr = .awake)) = true := by decide

/-- V24, V24b. -/
theorem test_sdLoadOtp :
    runs 40 0x0B00000000 (awake []) (fun t => decide (t.resTrace = [.code .ok] ∧ t.otpValid = true ∧
      t.otpBuf = [0x01, 0x02, 0x03, 0x04])) = true ∧
    runs 40 0x0B00000000 (withOutcomes (awake []) [.err]) (fun t =>
      decide (t.resTrace = [.code .busError] ∧ t.otpValid = false ∧ t.otpBuf = [0, 0, 0, 0])) = true := by decide

/-- V22f: an Err write still advances; V22d: both decline flags. -/
theorem test_sdLog :
    runs 40 0x0C00000001 (withOutcomes { awake [0x00, 0x00] with cursor := 5 } [.ok, .ok, .err]) (fun t =>
      decide (t.resTrace = [.logFlags 0x04] ∧ t.cursor = 6 ∧ t.writeLog = [(5, [.failed])])) = true ∧
    runs 40 0x0C00000001 (awake [0x0D, 0x00]) (fun t =>
      decide (t.resTrace = [.logFlags 0x03] ∧ t.cursor = 0 ∧ t.writeLog = [] ∧ t.pwr = .busy)) = true := by decide

/-- V23: store exhausted, the write already issued. -/
theorem test_sdLog_exhausted : runs 40 0x0C00000001 { awake [0x00, 0x00] with cursor := 0xFFFF } (fun t =>
    decide (t.faults = [.storeExhausted 0xFFFF] ∧ t.cursor = 0xFFFF ∧ t.resTrace = [] ∧
      t.writeLog = [(0xFFFF, [.wrote 0x0001])] ∧ t.cp = 0)) = true := by decide

/-- V25a, V25b. -/
theorem test_identification :
    runs 40 0x0D00000000 (awake []) (fun t => decide (t.resTrace = [.bytes .ok [0xA5, 0x5A]] ∧ t.txTrace = [])) = true ∧
    runs 40 0x0E00000000 (awake []) (fun t =>
      decide (t.resTrace = [.code .ok] ∧ t.txTrace = [.diag [0xA5, 0x5A]])) = true := by decide

/-- V25c. -/
theorem test_sdPrintId_bus_error : runs 40 0x0E00000000 (withOutcomes (awake []) [.err]) (fun t =>
    decide (t.resTrace = [.code .busError] ∧ t.txTrace = [])) = true := by decide

/-- V30. -/
theorem test_peClear : runs 40 0x2000000000
    { State.reset with idx := 16, wovf := true, df := ⟨false, false, false, true, false⟩ } (fun t =>
      decide (t.idx = 0 ∧ t.wovf = false ∧ t.df.toByte = 0x08)) = true := by decide

/-- V31b, V31c. -/
theorem test_peAppend :
    runs 40 0x2100000041 { State.reset with idx := 15 } (fun t =>
      decide (t.buf[15] = 0x41 ∧ t.idx = 16 ∧ t.df.toByte = 0x00)) = true ∧
    runs 40 0x2100000051 { State.reset with idx := 16 } (fun t =>
      decide (t.buf[15] = 0x00 ∧ t.idx = 16 ∧ t.wovf = true ∧ t.df.toByte = 0x08)) = true := by decide

/-- V33b. -/
theorem test_peExchange_opens : runs 40 0x2200000000 State.reset (fun t =>
    decide (t.hold = .window ∧ t.rxEn = true ∧ t.txTrace = [.byte 0x58] ∧ t.resTrace = [])) = true := by decide

/-- The buffer of S1. -/
def beginFrame : Vector Byte 16 :=
  ⟨⟨[0x42, 0x32, 0x30, 0x32, 0x33, 0x30, 0x31, 0x30, 0x31, 0x30, 0x30, 0x30, 0x30, 0x30, 0x30, 0x5A]⟩, rfl⟩

/-- The buffer of V43a. -/
def endFrame : Vector Byte 16 :=
  ⟨⟨[0x45, 0x32, 0x30, 0x39, 0x39, 0x31, 0x32, 0x33, 0x31, 0x32, 0x33, 0x35, 0x39, 0x35, 0x39, 0x5A]⟩, rfl⟩

/-- V33: an empty window dispatches nothing. -/
theorem test_peExchange_empty :
    (match execPeExchange { State.reset with hold := .window, buf := beginFrame } with
      | .next t => decide (t.resTrace = [.code .ok] ∧ t.hold = .none ∧ t.df.logging = false ∧ t.cp = 1)
      | _ => false) = true := by decide

/-- P2: `E` judged on stale cells; S3: an overflowed window is discarded. -/
theorem test_peDispatch :
    runs 40 0x2300000000
      { State.reset with buf := endFrame, idx := 1, df := ⟨true, false, false, true, false⟩ } (fun t =>
        decide (t.df.toByte = 0x08 ∧ t.idx = 0)) = true ∧
    runs 40 0x2300000000
      { State.reset with buf := beginFrame, idx := 16, wovf := true, df := ⟨false, false, false, true, false⟩ } (fun t =>
        decide (t.df.toByte = 0x08 ∧ t.idx = 0 ∧ t.wovf = false)) = true := by decide

/-- V37c, V37b. -/
theorem test_peDump :
    runs 40 0x2400000000 (withOutcomes { awake [] with cursor := 2, writeLog := [(1, [.wrote 0x0007])] } [.err])
      (fun t => decide (t.txTrace = [.word 0xABCD, .word 0x0007] ∧ t.df.memError = true)) = true ∧
    runs 40 0x2400000000 { awake [] with pwr := .poweredDown } (fun t =>
      decide (t.txTrace = [] ∧ t.df.memError = true ∧ t.violation = false)) = true := by decide

/-- V40, V41a. -/
theorem test_scBegin :
    runs 40 0x4000000000 { awake [] with cursor := 5, buf := beginFrame } (fun t =>
      decide (t.df.logging = true ∧ t.sessionBase = 5)) = true ∧
    runs 40 0x4000000000 { awake [] with buf := beginFrame.set 1 0x2F } (fun t =>
      decide (t.df.toByte = 0x00)) = true := by decide

/-- V43a, V43b. -/
theorem test_scEnd :
    runs 40 0x4100000000 { State.reset with buf := endFrame, df := ⟨true, false, false, false, false⟩ } (fun t =>
      decide (t.df.logging = false)) = true ∧
    runs 40 0x4100000000 { State.reset with buf := endFrame.set 14 0x41, df := ⟨true, false, false, false, false⟩ }
      (fun t => decide (t.df.logging = true)) = true := by decide

/-- Awake and Logging, with the next sensor reading. -/
def logging (sr : List Byte) (v : Word) (ok : Bool) : State :=
  { awake sr with
    df := ⟨true, false, false, false, false⟩
    env := { (awake sr).env with sensorReplies := [(v, ok)] } }

/-- V45, V46. -/
theorem test_scSample :
    runs 40 0x4200000000 (logging [0x00, 0x00] 0x7FFF false) (fun t =>
      decide (t.df.toByte = 0x05 ∧ t.writeLog = [(0, [.wrote 0x7FFF])] ∧ t.cursor = 1)) = true ∧
    runs 40 0x4200000000 (logging [0x01, 0x00] 0x0100 true) (fun t =>
      decide (t.df.toByte = 0x03 ∧ t.cursor = 0)) = true := by decide

/-- V47b, and the example of R214. -/
theorem test_scQuiesce :
    runs 40 0x4300000000 { awake [0x01, 0x00, 0x01, 0x00, 0x01, 0x00] with pwr := .busy } (fun t =>
      decide (t.resTrace = [.code .busBusy] ∧ t.busTrace.length = 6 ∧ t.violation = false)) = true ∧
    runs 40 0x4300000000 { awake [0x01, 0x00, 0x00, 0x00] with pwr := .busy } (fun t =>
      decide (t.resTrace = [.code .ok] ∧ t.busTrace.length = 4 ∧ t.pwr = .awake)) = true := by decide

/-- P1, CP 3: the cycle wakes the device and holds. -/
theorem test_scTickCycle_wakes : runs 40 0x4400000000 { awake [] with pwr := .poweredDown } (fun t =>
    decide (t.hold = .settle ∧ t.pwr = .waking ∧ t.busTrace = [.wake] ∧ t.txTrace = [])) = true := by decide

/-- A tick cycle whose window has just closed on this buffer, the driver active, with these status replies. -/
def closing (b : Vector Byte 16) (n : BitVec 5) (p : Power) (sr : List Byte) : State :=
  { awake sr with hold := .window, pwr := p, buf := b, idx := n, program := ⟨[Instr.scTickCycle.requestWord], none⟩ }

/-- V49, the part after the window: a device left busy; P1, CP 7: `D`, a dump of a device that was busy, `UDPD`. -/
theorem test_scTickCycle_closes :
    (match execScTickCycle (closing beginFrame 0 .busy [0x01, 0x00, 0x01, 0x00, 0x01, 0x00]) with
      | .next t => decide (t.resTrace = [.code .ok] ∧ t.df.memError = true ∧ t.pwr = .busy ∧ t.busTrace.length = 6)
      | _ => false) = true ∧
    (match execScTickCycle
        { closing (beginFrame.set 0 0x44) 16 .busy [0x00, 0x00] with
          cursor := 2, writeLog := [(0, [.wrote 0x0190]), (1, [.wrote 0x0191])] } with
      | .next t => decide (t.txTrace = [.word 0x0190, .word 0x0191] ∧ t.df.toByte = 0x00 ∧ t.pwr = .poweredDown ∧
          t.busTrace = [.txn .rdsr1 .ok (.byte 0x00), .txn .rdsr2 .ok (.byte 0x00),
            .txn (.read 0) .ok (.word 0x0190), .txn (.read 1) .ok (.word 0x0191), .txn .udpd .ok .none])
      | _ => false) = true := by decide

/-- V50. -/
theorem test_waitTick :
    runs 40 0x6000000000 { State.reset with tickPend := true } (fun t =>
      decide (t.resTrace = [.code .ok] ∧ t.tickPend = false)) = true ∧
    runs 40 0x6000000000 State.reset (fun t => decide (t.hold = .tick ∧ t.resTrace = [])) = true := by decide

/-- V51, P3 CP 13. -/
theorem test_waitSettle :
    runs 40 0x6100000000 (awake []) (fun t => decide (t.resTrace = [.code .ok])) = true ∧
    runs 40 0x6100000000 { awake [] with pwr := .waking } (fun t =>
      decide (t.hold = .settle ∧ t.resTrace = [])) = true := by decide

/-- S2: `D` and 15 filler bytes, two words logged. -/
theorem test_hostD : runs 128 0x58585858585858585858585858585844
    { awake [] with cursor := 2, writeLog := [(0, [.wrote 0x0190]), (1, [.wrote 0x0191])] } (fun t =>
      decide (t.txTrace = [.word 0x0190, .word 0x0191] ∧ t.df.toByte = 0x00 ∧ t.resTrace = [.code .ok])) = true := by
  decide

/-- S1: the begin frame, byte 0 in the low bits; V36: `':'` at position 14. -/
theorem test_hostB :
    runs 128 0x5A303030303030313031303332303242 { awake [] with cursor := 3 } (fun t =>
      decide (t.df.toByte = 0x01 ∧ t.sessionBase = 3 ∧ t.idx = 0 ∧ t.hold = .none)) = true ∧
    runs 128 0x003A3030303030313031303332303242 State.reset (fun t => decide (t.df.toByte = 0x00)) = true := by decide

/-- V43a as a frame. -/
theorem test_hostE : runs 128 0x5A393539353332313332313939303245
    { State.reset with df := ⟨true, false, false, false, false⟩ } (fun t =>
      decide (t.df.logging = false ∧ t.resTrace = [.code .ok])) = true := by decide

/-- V32, V31c by RX, V50's merge, V26. -/
theorem test_events :
    applyEvent (.rx 0x42) State.reset = State.reset ∧
    (applyEvent (.rx 0x51) { State.reset with rxEn := true, idx := 16 }).wovf = true ∧
    applyEvent .tick (applyEvent .tick State.reset) = applyEvent .tick State.reset ∧
    (applyEvent .settled { State.reset with pwr := .waking }).pwr = .awake := by decide

/-- V64: a word that spells no request. -/
theorem test_refusal : runs 40 0x0F00000000 State.reset (fun t =>
    decide (t.refused = true ∧ t.cp = 0 ∧ t.resTrace = [])) = true := by decide

/-! ### Witnesses: states that meet the hypotheses of each obligation, clause by clause -/

/-- The next turn is `x`. -/
def nextTurn (x : Turn) (s : State) : State := { s with env := { s.env with turns := [x] } }

/-- What is left of the environment's list after that turn. -/
def afterTurn (s : State) : Env := s.env.drawTurn.2

/-- A window just closed around the request at `CP`, with this buffer. -/
def closedWindow (i : Instr) (b : Vector Byte 16) : State :=
  { State.reset with hold := .window, buf := b, idx := 16, program := ⟨[i.requestWord], none⟩ }

theorem witness_DecodeEncodeAgree :
    (Instr.hostB (List.replicate 14 0x30) 0xFF).wf = true ∧ (Instr.sdWrite 0xFFFF 0xFFFF).wf = true := by decide

theorem witness_DecodedCodeIsTheEncoding :
    decode (.request 0x030010BEEF) = .ok (.sdWrite 0x0010 0xBEEF) ∧
    decode (.frame (0x44 :: List.replicate 15 0x58)) = .ok (.hostD (List.replicate 15 0x58)) := by decide

theorem witness_StepRunsTheRequestAtCP :
    let s := nextTurn .agent { State.reset with cp := 4 }
    s.env.drawTurn = (.agent, afterTurn s) ∧ s.faults = [] ∧ s.refused = false ∧
    ({ s with env := afterTurn s }.followGoto).fetchWord = some 0x6000000000 ∧
    decodeRequest 0x6000000000 = .ok .waitTick ∧ s.hold ≠ .window := by decide

/-- The other two cases of its last hypothesis: an open window, and a closed one that holds no command. -/
theorem witness_StepRunsTheRequestAtCP_window :
    let s := nextTurn .agent { closedWindow .peExchange endFrame with rxEn := true }
    let u := nextTurn .agent { closedWindow .peExchange endFrame with idx := 0 }
    s.fetchWord = some 0x2200000000 ∧ s.rxEn = true ∧ u.fetchWord = some 0x2200000000 ∧ u.command = none ∧
    s.env.drawTurn = (.agent, afterTurn s) ∧ u.env.drawTurn = (.agent, afterTurn u) := by decide

theorem witness_StepRunsTheHostCommand :
    let s := nextTurn .agent (closedWindow .scTickCycle beginFrame)
    s.env.drawTurn = (.agent, afterTurn s) ∧ s.faults = [] ∧ s.refused = false ∧ s.hold = .window ∧
    s.rxEn = false ∧ s.currentRequest = some .scTickCycle ∧ s.idx ≠ 0 ∧ overflowDiscards s = false ∧
    decodeFrame s.buf.toList =
      .ok (.hostB [0x32, 0x30, 0x32, 0x33, 0x30, 0x31, 0x30, 0x31, 0x30, 0x30, 0x30, 0x30, 0x30, 0x30] 0x5A) := by
  decide

theorem witness_HostCommandIsTheDispatch :
    let s := closedWindow .peExchange endFrame
    let u := closedWindow .scTickCycle endFrame
    s.hold = .window ∧ s.rxEn = false ∧ s.currentRequest = some .peExchange ∧ s.command.isSome = true ∧
    u.hold = .window ∧ u.rxEn = false ∧ u.currentRequest = some .scTickCycle ∧ u.command.isSome = true := by decide

theorem witness_BadRequestIsRefused :
    let s := nextTurn .agent { State.reset with program := ⟨[0x0100000001], none⟩ }
    s.env.drawTurn = (.agent, afterTurn s) ∧ s.faults = [] ∧ s.program.loopTo = none ∧
    s.fetchWord = some 0x0100000001 ∧ (∀ r ∈ requestRows, 0x0100000001#40 &&& r.2 ≠ r.1) ∧ s.refused = false ∧
    ({ s with refused := true } : State).fetchWord = some 0x0100000001 := by
  refine ⟨?_, ?_, ?_, ?_, by simp [requestRows], ?_, ?_⟩ <;> decide

theorem witness_FaultStopsTheAgentNotEvents :
    let s := nextTurn .agent { State.reset with faults := [.storeExhausted 0xFFFF] }
    let u := nextTurn (.event .tick) { State.reset with faults := [.addrRange 0x0010] }
    s.faults = .storeExhausted 0xFFFF :: [] ∧ s.env.drawTurn = (.agent, afterTurn s) ∧
    u.faults = .addrRange 0x0010 :: [] ∧ u.env.drawTurn = (.event .tick, afterTurn u) := by decide

/-- RX with the path closed, at index 15 and at index 16. -/
theorem witness_EventsDoWhatTheirRulesSay_rx :
    let s := nextTurn (.event (.rx 0x42)) State.reset
    let u := nextTurn (.event (.rx 0x42)) { State.reset with rxEn := true, idx := 15 }
    let v := nextTurn (.event (.rx 0x42)) { State.reset with rxEn := true, idx := 16 }
    (s.env.drawTurn = (.event (.rx 0x42), afterTurn s) ∧ s.rxEn = false) ∧
    (u.env.drawTurn = (.event (.rx 0x42), afterTurn u) ∧ u.rxEn = true ∧ u.idx.toNat < 16) ∧
    (v.env.drawTurn = (.event (.rx 0x42), afterTurn v) ∧ v.rxEn = true ∧ 16 ≤ v.idx.toNat) := by
  refine ⟨⟨?_, ?_⟩, ⟨?_, ?_, ?_⟩, ?_, ?_, ?_⟩ <;> decide

/-- The three other events where they are enabled. -/
theorem witness_EventsDoWhatTheirRulesSay :
    let s := nextTurn (.event .tick) State.reset
    let u := nextTurn (.event .timeout) { State.reset with hold := .window }
    let v := nextTurn (.event .settled) { State.reset with pwr := .waking }
    s.env.drawTurn = (.event .tick, afterTurn s) ∧
    (u.env.drawTurn = (.event .timeout, afterTurn u) ∧ u.hold = .window) ∧
    (v.env.drawTurn = (.event .settled, afterTurn v) ∧ v.pwr = .waking) := by decide

/-- The invariant holds of the state the model resets to. -/
theorem witness_Inv_reset : (nextTurn .agent State.reset).Inv := by
  constructor <;> first | decide | trivial

/-- … and of each of the three holds. -/
theorem witness_HeldAgentWaits_settle :
    (nextTurn .agent { State.reset with hold := .settle, pwr := .waking }).Inv := by
  constructor <;> first | decide | exact .inl (by decide)

theorem witness_HeldAgentWaits_window :
    (nextTurn .agent { closedWindow .peExchange beginFrame with rxEn := true, idx := 3 }).Inv := by
  constructor <;> first | decide | exact .inl (by decide)

theorem witness_HeldAgentWaits_tick : (nextTurn .agent { State.reset with cp := 2, hold := .tick }).Inv := by
  constructor <;> first
    | decide
    | exact (by decide : State.currentRequest (nextTurn .agent { State.reset with cp := 2, hold := .tick }) = some .waitTick)

theorem witness_HeldAgentWaits :
    let s := nextTurn .agent { State.reset with hold := .settle, pwr := .waking }
    s.env.drawTurn = (.agent, afterTurn s) ∧ s.faults = [] ∧ s.refused = false ∧ s.hold = .settle ∧ s.pwr = .waking := by
  decide

theorem witness_FirmwareLoops :
    let s := nextTurn .agent { State.reset with cp := 4 }
    s.program = .fwMain ∧ s.cp = 4 ∧ s.hold = .none ∧ s.env.drawTurn = (.agent, afterTurn s) ∧ s.faults = [] ∧
    s.refused = false := by decide

theorem witness_SdInitResult :
    (awake []).hold = .none ∧ (awake []).drvActive = true ∧ State.reset.hold = .none ∧ State.reset.drvActive = false ∧
    (let s : State := { awake [] with drvActive := false, hold := .settle }
     s.hold = .settle ∧ s.pwr ≠ .waking ∧ s.env.drawOutcome = (.ok, s.env.drawOutcome.2)) ∧
    (let s : State := withOutcomes { awake [] with drvActive := false, hold := .settle } [.err]
     s.env.drawOutcome = (.err, s.env.drawOutcome.2) ∧
     (Env.drawIdOtps s.cfg.idLen s.env.drawOutcome.2).1.length = 2) := by decide

theorem witness_SdTermResult :
    State.reset.drvActive = false ∧ (busyAt.drvActive = true ∧ busyAt.pwr = .busy) ∧
    ((awake []).drvActive = true ∧ (awake []).pwr = .awake ∧
      (awake []).env.drawOutcome = (.ok, (awake []).env.drawOutcome.2)) ∧
    (let s : State := { awake [] with pwr := .poweredDown }; s.drvActive = true ∧ s.pwr = .poweredDown) := by decide

/-- The store's last address and the first beyond it; protected and not; busy and awake. -/
theorem witness_SdWriteResult :
    let small : Params := { Params.vectorBinding with nvmWords := 16 }
    ¬ ReadyAt State.reset ∧
    (ReadyAt { awake [] with cfg := small } ∧ small.nvmWords ≤ (0x0010 : Word).toNat) ∧
    ((0x000F : Word).toNat < small.nvmWords ∧ (0xFFFF : Word).toNat < (awake []).cfg.nvmWords) ∧
    (let s : State := { awake [] with sr1c := 0x08 }; ReadyAt s ∧ ProtectedBy s s.sr1c s.sr2c) ∧
    (ReadyAt busyAt ∧ ¬ ProtectedBy busyAt busyAt.sr1c busyAt.sr2c ∧ busyAt.pwr = .busy) ∧
    (let s := withOutcomes (awake []) [.err]
     s.drvActive = true ∧ ¬ ProtectedBy s s.sr1c s.sr2c ∧ s.pwr = .awake ∧
     s.env.drawOutcome = (.err, s.env.drawOutcome.2)) := by decide

theorem witness_SdReadResult :
    let s : State := { busyAt with pwr := .awake }
    s.drvActive = true ∧ s.pwr = .awake ∧ s.env.drawOutcome = (.ok, s.env.drawOutcome.2) ∧
    s.writeLog.entries (0x0010 : Word).toNat = [.wrote 0xBEEF] ∧
    s.writeLog.entries (0xFFFF : Word).toNat = [] ∧ (0xFFFF : Word).toNat < s.cfg.nvmWords ∧
    s.env.drawOutcome.2.drawWord = (0xABCD, s.env.drawOutcome.2.drawWord.2) ∧
    ReadyAt busyAt ∧ busyAt.pwr = .busy ∧ ¬ ReadyAt State.reset := by decide

/-- A pair of status reads with given outcomes and bytes. -/
theorem witness_SdRefreshResult :
    let s := withOutcomes (awake [0x04, 0x80]) [.ok, .err]
    let u := awake [0x01, 0x00]
    ReadyAt s ∧ drawPair s.env = ((.ok, 0x04), (drawPair s.env).2) ∧
    drawPair (drawPair s.env).2 = ((.err, 0x80), (drawPair (drawPair s.env).2).2) ∧
    ReadyAt u ∧ drawPair u.env = ((.ok, 0x01), (drawPair u.env).2) ∧
    drawPair (drawPair u.env).2 = ((.ok, 0x00), (drawPair (drawPair u.env).2).2) := by decide

theorem witness_ready_awake_or_busy :
    ¬ ReadyAt State.reset ∧ (busyAt.drvActive = true ∧ busyAt.pwr = .busy) ∧
    (let s := withOutcomes (awake []) [.err]
     s.drvActive = true ∧ s.pwr = .awake ∧ s.env.drawOutcome = (.err, s.env.drawOutcome.2)) ∧
    (let s := awake []
     s.drvActive = true ∧ s.pwr = .awake ∧ s.env.drawOutcome = (.ok, s.env.drawOutcome.2)) := by decide

/-- SD_WRSR1, SD_LOAD_OTP, SD_READ_ID and SD_PRINT_ID have the cases of `witness_ready_awake_or_busy`; the
power-down and the wake have these as well. -/
theorem witness_PowerDownAndWakeResults :
    State.reset.drvActive = false ∧
    (let s : State := { awake [] with pwr := .poweredDown }; s.drvActive = true ∧ s.pwr = .poweredDown) ∧
    (let s : State := { awake [] with pwr := .waking }; s.drvActive = true ∧ s.pwr ≠ .poweredDown) := by decide

/-- Busy and protected bytes; a write on the last address but one, and on the last. -/
theorem witness_SdLogResult :
    let s := awake [0x00, 0x00]
    let e1 := (drawPair s.env).2
    let e2 := (drawPair e1).2
    BusyBit s 0x01 ∧ ProtectedBy s 0x04 0x00 ∧ ¬ BusyBit s 0x02 ∧ ¬ ProtectedBy s 0x02 0xFF ∧
    ReadyAt s ∧ drawPair s.env = ((.ok, 0x00), e1) ∧ drawPair e1 = ((.ok, 0x00), e2) ∧
    e2.drawOutcome = (.ok, e2.drawOutcome.2) ∧
    ({ s with cursor := 0xFFFE } : State).cursor.toNat + 1 ≠ s.cfg.nvmWords ∧
    ({ s with cursor := 0xFFFF } : State).cursor.toNat + 1 = s.cfg.nvmWords := by decide

theorem witness_SdLoadOtpResult_and_IdentificationResults :
    let s := withOutcomes (awake []) [.err]
    s.drvActive = true ∧ s.pwr = .awake ∧ s.env.drawOutcome = (.err, s.env.drawOutcome.2) ∧
    (Env.drawIdOtps s.cfg.otpLen s.env.drawOutcome.2).1.length = 4 ∧
    (Env.drawIdOtps s.cfg.idLen s.env.drawOutcome.2).1.length = 2 := by decide

theorem witness_BufferRequestResults :
    ({ State.reset with idx := 15 } : State).idx.toNat < 16 ∧
    16 ≤ ({ State.reset with idx := 16 } : State).idx.toNat := by decide

theorem witness_PeExchangeResult :
    State.reset.hold = .none ∧
    (let s := { closedWindow .peExchange beginFrame with rxEn := true }; s.hold = .window ∧ s.rxEn = true) ∧
    (let s := { closedWindow .peExchange beginFrame with idx := 0 }; s.hold = .window ∧ s.rxEn = false ∧ s.idx = 0) := by
  decide

/-- Every case of the dispatch: empty, overflowed in either scope, `D` awake and not, `B`, `E`, and a frame
that does nothing. -/
theorem witness_PeDispatchResult :
    State.reset.idx = 0 ∧
    (let s : State := { State.reset with wovf := true }; s.cfg.ovfDiscardScope = .window ∧ s.wovf = true) ∧
    (let s : State :=
      { State.reset with
        cfg := { Params.vectorBinding with ovfDiscardScope := .sticky }
        df := ⟨false, false, false, true, false⟩ }
     s.cfg.ovfDiscardScope = .sticky ∧ s.df.cmdOverflow = true) ∧
    (let s : State := { awake [] with idx := 1, buf := beginFrame.set 0 0x44 }
     s.idx ≠ 0 ∧ s.wovf = false ∧ s.buf[0] = 0x44#8 ∧ s.drvActive = true ∧ s.pwr = .awake ∧ s.cs = false ∧
     s.cursor.toNat < s.cfg.nvmWords ∧ (quiesceBody s).1 = .ok) ∧
    (let s : State := { State.reset with idx := 1, buf := beginFrame.set 0 0x44 }; (quiesceBody s).1 ≠ .ok) ∧
    (let s : State := { State.reset with idx := 16, buf := beginFrame }
     s.buf[0] = 0x42#8 ∧ DigitsInBuffer s ∧ s.df.logging = false) ∧
    (let s : State := { State.reset with idx := 16, buf := endFrame, df := ⟨true, false, false, false, false⟩ }
     s.buf[0] = 0x45#8 ∧ DigitsInBuffer s ∧ s.df.logging = true) ∧
    (let s : State := { State.reset with idx := 1 }; s.buf[0] ≠ 0x44#8 ∧ ¬ DigitsInBuffer s) := by decide

theorem witness_PeDumpResult :
    let s : State := { awake [] with cursor := 0xFFFF }
    s.drvActive = true ∧ s.pwr = .awake ∧ s.cs = false ∧ s.cursor.toNat < s.cfg.nvmWords ∧
    (quiesceBody s).1 = .ok ∧ (quiesceBody State.reset).1 ≠ .ok := by decide

/-- The boundary digits `'0'` and `'9'`, and the characters beside them. -/
theorem witness_SessionTransitions :
    DigitsInBuffer { State.reset with buf := beginFrame } ∧
    DigitsInBuffer { State.reset with buf := beginFrame.set 14 0x39 } ∧
    ¬ DigitsInBuffer { State.reset with buf := beginFrame.set 1 0x2F } ∧
    ¬ DigitsInBuffer { State.reset with buf := beginFrame.set 14 0x3A } ∧
    State.reset.df.logging = false ∧ (logging [] 0 true).df.logging = true := by decide

theorem witness_ScSampleResult :
    let s := logging [0x00, 0x00] 0x7FFF false
    let e := s.env.drawSensor.2
    let e1 := (drawPair e).2
    let e2 := (drawPair e1).2
    State.reset.df.logging = false ∧ s.df.logging = true ∧ s.env.drawSensor = ((0x7FFF, false), e) ∧ ReadyAt s ∧
    drawPair e = ((.ok, 0x00), e1) ∧ drawPair e1 = ((.ok, 0x00), e2) ∧ ¬ BusyBit s 0x00 ∧ ¬ ProtectedBy s 0x00 0x00 ∧
    e2.drawOutcome = (.ok, e2.drawOutcome.2) ∧ s.cursor.toNat + 1 ≠ s.cfg.nvmWords ∧
    ¬ ReadyAt { s with pwr := .poweredDown } := by decide

/-- Its two clauses about SD_LOG's body: one that completes and one that raises its fault. -/
theorem witness_ScSampleResult_bodies :
    (match logBody 0x0001 (awake [0x00, 0x00]) with | .done f _ => decide (f = 0) | .faulted _ => false) = true ∧
    (match logBody 0x0001 { awake [0x00, 0x00] with cursor := 0xFFFF } with
      | .done _ _ => false
      | .faulted t => decide (t.faults = [.storeExhausted 0xFFFF])) = true := by decide

theorem witness_ScQuiesceResult :
    ((awake []).drvActive = true ∧ (awake []).pwr = .awake) ∧ State.reset.pwr = .poweredDown ∧
    (busyAt.drvActive = true ∧ busyAt.pwr = .busy) := by decide

theorem witness_TickCycleOpens :
    (let s : State := { awake [] with pwr := .poweredDown }
     s.hold = .none ∧ s.drvActive = true ∧ s.pwr = .poweredDown) ∧
    (let s : State := { awake [] with pwr := .waking, hold := .settle }; s.pwr = .waking ∧ s.hold = .settle) ∧
    (let s := awake []; s.hold = .none ∧ s.pwr ≠ .poweredDown ∧ s.pwr ≠ .waking ∧ s.df.logging = false ∧
      s.cfg.tickOrder = .sampleFirst ∧
      (match sampleBody { s with hold := .none } with | .done () _ => true | .faulted _ => false) = true) ∧
    (let s := { logging [0x00, 0x00] 1 true with cursor := 0xFFFF }
     (match sampleBody { s with hold := .none } with | .done () _ => false | .faulted _ => true) = true) := by decide

/-- The window open, and closed: every case of `WindowDispatched` and what its first clause needs. -/
theorem witness_TickCycleCloses :
    (let s : State := { closing beginFrame 0 .awake [] with rxEn := true }; s.hold = .window ∧ s.rxEn = true) ∧
    (let s := closing beginFrame 16 .awake []
     s.hold = .window ∧ s.rxEn = false ∧ s.cs = false ∧ s.cursor.toNat < s.cfg.nvmWords ∧ s.idx ≠ 0 ∧
     s.wovf = false ∧ s.cfg.ovfDiscardScope = .window ∧ s.buf[0] = 0x42#8 ∧ DigitsInBuffer s ∧ s.df.logging = false) ∧
    (let s : State := { closing endFrame 1 .awake [] with df := ⟨true, false, false, false, false⟩ }
     s.buf[0] = 0x45#8 ∧ DigitsInBuffer s ∧ s.df.logging = true) ∧
    (let s := closing (beginFrame.set 0 0x44) 16 .busy [0x00, 0x00]
     s.buf[0] = 0x44#8 ∧ (quiesceBody { s with hold := .none }).1 = .ok) ∧
    (let s := closing (beginFrame.set 0 0x44) 16 .poweredDown []
     s.buf[0] = 0x44#8 ∧ (quiesceBody { s with hold := .none }).1 ≠ .ok) := by decide

/-- A window whose dispatch completes, and one (that no run reaches) whose dispatch raises AddrRange. -/
theorem witness_TickCycleCloses_dispatch :
    (match dispatchBody { closing beginFrame 16 .awake [] with hold := .none } with
      | .done () u => decide (u.df.logging = true) | .faulted _ => false) = true ∧
    (let s := closing (beginFrame.set 0 0x44) 16 .awake []
     match dispatchBody
        { s with hold := .none, cfg := { s.cfg with nvmWords := 16 }, sessionBase := 0x0010, cursor := 0x0011 } with
      | .done () _ => false | .faulted u => decide (u.faults = [.addrRange 0x0010])) = true := by decide

/-- Its clauses on an empty window: the three ways a quiesce ends, and a first refresh that finds the device
ready. -/
theorem witness_TickCycleCloses_empty :
    (let s := closing beginFrame 0 .awake []
     s.idx = 0 ∧ s.cfg.tickOrder = .sampleFirst ∧ s.drvActive = true ∧ s.pwr = .awake ∧
     s.env.drawOutcome = (.ok, s.env.drawOutcome.2)) ∧
    (let s := closing beginFrame 0 .busy [0x00, 0x00]
     let e1 := (drawPair s.env).2
     let e2 := (drawPair e1).2
     s.drvActive = true ∧ s.pwr = .busy ∧ 0 < s.cfg.busyPollLimit ∧ drawPair s.env = ((.ok, 0x00), e1) ∧
     drawPair e1 = ((.ok, 0x00), e2) ∧ ¬ BusyBit s 0x00 ∧ e2.drawOutcome = (.ok, e2.drawOutcome.2)) ∧
    (let s := { closedWindow .scTickCycle beginFrame with idx := 0 }; s.drvActive = false ∧ s.pwr = .poweredDown) ∧
    (let s := closing beginFrame 0 .busy [0x01, 0x00, 0x01, 0x00, 0x01, 0x00]
     s.drvActive = true ∧ (quiesceBody { s with hold := .none, idx := 0, wovf := false }).1 = .busBusy) := by decide

/-- `TickCycleGoesOn`: EXCHANGE_FIRST while Logging, with a sample that completes and one that raises
StoreExhausted; `QuiescedAndDown`: OK after one poll, busy to the limit, and released. -/
theorem witness_TickCycleGoesOn :
    (let s : State := { logging [0x00, 0x00] 1 true with cfg := { Params.vectorBinding with tickOrder := .exchangeFirst } }
     s.cfg.tickOrder = .exchangeFirst ∧ s.df.logging = true ∧
     (match sampleBody s with | .done () t => decide (t.cursor = 1 ∧ t.pwr = .busy) | .faulted _ => false) = true ∧
     (match sampleBody { s with cursor := 0xFFFF } with
       | .done () _ => false | .faulted t => decide (t.faults = [.storeExhausted 0xFFFF])) = true) ∧
    (let q := quiesceBody { awake [0x00, 0x00] with pwr := .busy }
     q.1 = .ok ∧ q.2.env.drawOutcome = (.ok, q.2.env.drawOutcome.2)) ∧
    (let q := quiesceBody { awake [0x01, 0x00, 0x01, 0x00, 0x01, 0x00] with pwr := .busy }; q.1 ≠ .ok ∧ q.2.drvActive = true) ∧
    (quiesceBody State.reset).1 ≠ .ok := by decide

/-- Each body where it completes and, for the two that can, where it raises a fault, is a hypothesis that
`witness_TickCycleCloses_dispatch` and `witness_TickCycleGoesOn` meet. -/
theorem witness_BodiesAreTheRequests :
    (match dispatchBody State.reset with | .done () _ => true | .faulted _ => false) = true ∧
    (match sampleBody State.reset with | .done () _ => true | .faulted _ => false) = true ∧
    (quiesceBody State.reset).1 = .notReady := by decide

theorem witness_HostCommandsInATickCycle :
    let s := closing beginFrame 16 .awake []
    let ts : List Byte := List.replicate 13 0x30 ++ [0x39]
    let bad : List Byte := List.replicate 13 0x30 ++ [0x3A]
    s.hold = .window ∧ s.currentRequest = some .scTickCycle ∧ ts.length = 14 ∧ (∀ c ∈ ts, 0x30#8 ≤ c ∧ c ≤ 0x39#8) ∧
    s.df.logging = false ∧ bad.length = 14 ∧ (∃ c ∈ bad, c < 0x30#8 ∨ 0x39#8 < c) ∧
    ({ s with df := ⟨true, false, false, false, false⟩ } : State).df.logging = true ∧
    (quiesceBody { s with hold := .none }).1 = .ok ∧ s.cs = false ∧ s.cursor.toNat < s.cfg.nvmWords ∧
    (quiesceBody { s with hold := .none, pwr := .poweredDown }).1 ≠ .ok := by decide

theorem witness_WaitResults :
    (let s : State := { State.reset with hold := .tick, tickPend := true }; s.hold = .tick ∧ s.tickPend = true) ∧
    (State.reset.hold = .none ∧ State.reset.tickPend = false ∧ State.reset.pwr ≠ .waking) ∧
    (let s : State := { State.reset with hold := .settle, pwr := .waking }; s.hold = .settle ∧ s.pwr = .waking) := by
  decide

theorem witness_HostBeginAndEndResults :
    let s := closedWindow .peExchange beginFrame
    let ts : List Byte := List.replicate 13 0x30 ++ [0x39]
    let bad : List Byte := List.replicate 13 0x30 ++ [0x3A]
    s.currentRequest = some .peExchange ∧ ts.length = 14 ∧ (∀ c ∈ ts, 0x30#8 ≤ c ∧ c ≤ 0x39#8) ∧
    s.df.logging = false ∧ bad.length = 14 ∧ (∃ c ∈ bad, c < 0x30#8 ∨ 0x39#8 < c) ∧
    ({ s with df := ⟨true, false, false, false, false⟩ } : State).df.logging = true := by decide

theorem witness_HostDumpResult :
    let s := closedWindow .peExchange beginFrame
    let u : State := { s with drvActive := true, pwr := .awake, cursor := 0xFFFF }
    s.currentRequest = some .peExchange ∧ s.pwr = .poweredDown ∧ u.currentRequest = some .peExchange ∧
    u.drvActive = true ∧ u.pwr = .awake ∧ u.cs = false ∧ u.cursor.toNat < u.cfg.nvmWords := by decide

theorem witness_ResetMeetsTheInvariant :
    Params.vectorBinding.wf = true ∧ (ResetDraws.zeros .vectorBinding).otpBuf.length = Params.vectorBinding.otpLen := by
  decide

/-- For the statements about every step: a step of a state that has the invariant. -/
theorem witness_StepKeepsTheInvariant :
    (match step (nextTurn .agent State.reset) with | .next t => decide (t.hold = .settle) | _ => false) = true := by
  decide

/-- A step that advances the cursor from the last address that can. -/
theorem witness_CursorOnlyAdvances :
    runs 40 0x0C00000001 { awake [0x00, 0x00] with cursor := 0xFFFE } (fun t => decide (t.cursor = 0xFFFF)) = true := by
  decide

/-- A step that starts with every sticky bit set, chip select low and the device down. -/
theorem witness_StickyBitsStaySet :
    runs 40 0x0B00000000
      { State.reset with violation := true, df := ⟨false, true, true, true, false⟩ } (fun t =>
        decide (t.df.toByte = 0x0E ∧ t.violation = true ∧ t.cs = false ∧ t.busTrace = [])) = true := by decide

theorem witness_WakingIsLeftOnlyBySettled :
    let s := nextTurn (.event .settled) { State.reset with pwr := .waking }
    s.pwr = .waking ∧ (match step s with | .next t => decide (t.pwr ≠ .waking) | _ => false) = true := by decide

/-- One step for each transition of `SD.PWR` that a store driver's request makes. -/
theorem witness_PowerTransitionsOfDriverRequests :
    State.reset.currentRequest = some .sdInit ∧ isSdRequest .sdInit = true ∧
    runs 40 0x0100000000 State.reset (fun t => decide (t.pwr = .waking)) = true ∧
    runs 40 0x0500000000 { awake [0x00, 0x00] with pwr := .busy } (fun t => decide (t.pwr = .awake)) = true ∧
    runs 40 0x0500000000 (awake [0x01, 0x00]) (fun t => decide (t.pwr = .busy)) = true ∧
    runs 40 0x0900000000 (awake []) (fun t => decide (t.pwr = .poweredDown)) = true := by decide

theorem witness_ReadAfterWrite :
    let s := awake []
    let u : State := { s with writeLog := [(0xFFFF, [.wrote 0x1234])] }
    s.drvActive = true ∧ s.pwr = .awake ∧ (0xFFFF : Word).toNat < s.cfg.nvmWords ∧ ¬ ProtectedBy s s.sr1c s.sr2c ∧
    s.env.drawOutcome = (.ok, s.env.drawOutcome.2) ∧ s.writeLog.entries (0xFFFF : Word).toNat = [] ∧
    (match exec (.sdWrite 0xFFFF 0x1234) s with
      | .next t => decide (u.writeLog.entries (0xFFFF : Word).toNat = t.writeLog.entries (0xFFFF : Word).toNat ∧
          u.cfg = t.cfg)
      | _ => false) = true ∧
    u.drvActive = true ∧ u.pwr = .awake ∧ u.env.drawOutcome = (.ok, u.env.drawOutcome.2) := by decide

/-- A next state for SD_WRITE, for an instruction that logs and for one that does not. -/
theorem witness_MemoryFrame :
    (match exec (.sdWrite 0x0010 0xBEEF) (awake []) with
      | .next t => decide (t.writeLog = [(0x0010, [.wrote 0xBEEF])]) | _ => false) = true ∧
    (match exec (.sdLog 0x0001) (awake [0x00, 0x00]) with
      | .next t => decide (t.writeLog = [(0, [.wrote 0x0001])]) | _ => false) = true ∧
    mayLog .sdRefresh = false ∧
    (match exec .sdRefresh (awake [0x00, 0x00]) with | .next t => decide (t.writeLog = []) | _ => false) = true := by
  decide

theorem witness_DriverRequestsFrame :
    isSdRequest .sdPrintId = true ∧
    (match exec .sdPrintId (awake []) with | .next t => decide (t.txTrace ≠ []) | _ => false) = true := by decide

/-- A begin in PE_EXCHANGE's window, and in a tick cycle's, where the sample that follows it moves the cursor. -/
theorem witness_SessionStateFrame :
    (let s := nextTurn .agent { closedWindow .peExchange beginFrame with cursor := 7 }
     match step s with
      | .next t => decide (s.df.logging = false ∧ t.df.logging = true ∧ t.sessionBase ≠ s.sessionBase)
      | _ => false) = true ∧
    (let s := nextTurn .agent
      { closing beginFrame 16 .awake [0x00, 0x00, 0x00, 0x00] with
        cfg := { Params.vectorBinding with tickOrder := .exchangeFirst }
        cursor := 7
        env := (logging [0x00, 0x00, 0x00, 0x00] 0x0190 true).env }
     match step s with
      | .next t => decide (t.sessionBase = 7 ∧ t.df.logging = true ∧ t.cursor = 8)
      | _ => false) = true := by decide

/-- A state at the window's hold with no hold lifted, the agent's turn at it, and an event that lifts no hold. -/
theorem witness_R44HoldsBetweenResumptions :
    let s := { closing beginFrame 0 .awake [] with rxEn := true }
    s.Inv ∧ ¬ HoldLifted s ∧ s.observed ∧ s.R44 ∧ ({ s with hold := .none, rxEn := false, cp := 1 } : State).observed ∧
    (nextTurn .agent s).env.drawTurn = (.agent, afterTurn (nextTurn .agent s)) ∧
    (nextTurn (.event .tick) s).env.drawTurn = (.event .tick, afterTurn (nextTurn (.event .tick) s)) ∧
    (match step (nextTurn .agent s), step (nextTurn (.event .tick) s) with | .next _, .next _ => true | _, _ => false) = true := by
  refine ⟨?_, by simp [HoldLifted, closing], .inr ⟨by decide, by simp [HoldLifted, closing]⟩, ?_, .inl (by decide),
    by decide, by decide, by decide⟩ <;> constructor <;> try decide
  exact .inr (by decide)

/-- A state at the window's hold with reception enabled, and the event that ends it. -/
theorem witness_ReceiveEnabledExactlyAtTheWindowHold :
    let s := nextTurn (.event .timeout) { closedWindow .peExchange beginFrame with rxEn := true }
    (s.rxEn = true ↔ s.hold = .window) ∧ (match step s with | .next _ => true | _ => false) = true := by decide

end Sys2Proof.Tests
end

section
/-! PROOFS. The family 10_state.md. What the control agent's turn leaves (`Rested`), every step by its kind
(`StepKind`), and from these the invariant, the sticky bits, the configuration and the session state. -/

namespace Sys2Proof.Machine

/-! ### The kinds of a step -/

/-- What a step to a next state is: an event; an instruction of the control agent, begun or resumed; the
refusal of a word (60_exceptions.md R244); or a turn of the agent after the end of its program. -/
inductive StepKind (s s' : State) : Prop
  | event (ev : Event) (e : Env) (turn : s.env.drawTurn = (.event ev, e))
      (eq : s' = applyEvent ev { s with env := e })
  | run (i : Instr) (e : Env) (turn : s.env.drawTurn = (.agent, e)) (live : s.faults = [])
      (act : ({ s with env := e } : State).followGoto.nextAction = .run i)
      (ex : exec i ({ s with env := e } : State).followGoto = .next s')
  | refuse (e : Env) (turn : s.env.drawTurn = (.agent, e))
      (act : ({ s with env := e } : State).followGoto.nextAction = .refuse)
      (eq : s' = ({ s with env := e } : State).followGoto.refuse)
  | idle (e : Env) (turn : s.env.drawTurn = (.agent, e))
      (act : ({ s with env := e } : State).followGoto.nextAction = .idle) (eq : s' = { s with env := e })

/-- Every step to a next state is of one of the four kinds. -/
theorem stepKind_of_step {s s' : State} (h : step s = .next s') : StepKind s s' := by
  rcases ht : s.env.drawTurn with ⟨_ | ev, e⟩
  · rw [step_agent ht] at h
    rcases hf : s.faults with _ | ⟨f, fs⟩
    · cases hr : s.refused
      · rw [agentTurn_live (s := { s with env := e }) hf hr] at h
        split at h
        · next i ha => exact .run i e ht hf ha h
        · next ha => exact .refuse e ht ha (Host.Outcome.next.inj h).symm
        · next ha => exact .idle e ht ha (Host.Outcome.next.inj h).symm
      · simp [agentTurn, hf, hr] at h
    · simp [agentTurn, hf] at h
  · rw [step_event ht] at h
    exact .event ev e ht (Host.Outcome.next.inj h).symm

/-- The goto reads and moves `CP` alone, so an instruction's effect from the state after it is one from the state
before it. -/
theorem InstrEffect.of_followGoto {s t : State} {e : Env}
    (h : InstrEffect ({ s with env := e } : State).followGoto t) : InstrEffect s t := by
  rw [followGoto_frame] at h
  exact { h with }

/-- The instruction of the agent's turn is the request at `CP`, or the command of a window that has closed. -/
theorem nextAction_run {s : State} {i : Instr} (h : s.nextAction = .run i) :
    s.currentRequest = some i ∨
      (s.hold = .window ∧ s.rxEn = false ∧ s.command = some i ∧
        (s.currentRequest = some .peExchange ∨ s.currentRequest = some .scTickCycle)) := by
  unfold State.nextAction at h
  split at h
  · cases h
  · next w hw =>
    split at h
    · cases h
    · next j hj =>
      have hc : s.currentRequest = some j := by simp [State.currentRequest, hw, hj, Except.toOption]
      split at h
      · next hwin =>
        obtain ⟨hold, hrx, hj'⟩ := hwin
        split at h
        · next c hcmd =>
          cases h
          exact .inr ⟨hold, hrx, hcmd, by simpa [hc] using hj'⟩
        · cases h; exact .inl hc
      · cases h; exact .inl hc

/-- No request is at `CP` where its word is refused or missing. -/
theorem currentRequest_of_not_run {s : State} (h : s.nextAction = .refuse ∨ s.nextAction = .idle) :
    s.currentRequest = none := by
  unfold State.currentRequest
  rcases hw : s.fetchWord with _ | w
  · rfl
  · rcases hd : decodeRequest w with e | i
    · simp [hd, Except.toOption]
    · simp only [State.nextAction, hw, hd] at h
      split at h
      · split at h <;> simp at h
      · simp at h

/-- The host commands (30_encoding.md R106). -/
def isHostCommand : Instr → Bool
  | .hostD _ => true
  | .hostB _ _ => true
  | .hostE _ _ => true
  | _ => false

theorem eq_of_ite_ok {p : Prop} [Decidable p] {i j : Instr} {e : DecodeError}
    (h : (if p then Except.ok i else .error e) = .ok j) : i = j := by
  split at h <;> cases h
  rfl

/-- No request word spells a host command (30_encoding.md R103). -/
theorem not_hostCommand_of_decodeRequest {w : ReqWord} {i : Instr} (h : decodeRequest w = .ok i) :
    isHostCommand i = false := by
  unfold decodeRequest decodeFields at h
  split at h
  case h_3 => cases h; rfl
  case h_27 => cases h
  all_goals exact eq_of_ite_ok h ▸ rfl

theorem not_hostCommand_of_currentRequest {s : State} {i : Instr} (h : s.currentRequest = some i) :
    isHostCommand i = false := by
  obtain ⟨w, -, hd⟩ := fetchWord_of_currentRequest h
  exact not_hostCommand_of_decodeRequest hd

/-- The command a closed window holds is its first byte's, and the window is not empty (30_encoding.md R106,
R109). -/
theorem command_cases {s : State} {i : Instr} (h : s.command = some i) :
    s.idx ≠ 0 ∧ ((∃ rest, i = .hostD rest) ∨ (∃ ts f, i = .hostB ts f ∧ s.buf[0] = 0x42#8) ∨
      (∃ ts f, i = .hostE ts f ∧ s.buf[0] = 0x45#8)) := by
  unfold State.command at h
  split at h
  · cases h
  · next hidx =>
    refine ⟨hidx, ?_⟩
    split at h
    · cases h
    · obtain ⟨c, rest, hcells⟩ : ∃ c rest, frameCells s.buf = c :: rest :=
        List.exists_cons_of_length_pos (by simp [frameCells])
      have hc : s.buf[0] = c := by
        have h0 : s.buf.toList[0]'(by simp) = c := by simp [show s.buf.toList = c :: rest from hcells]
        simpa using h0
      have hlen : (c :: rest).length = Config.bufferCapacity := by
        rw [← hcells]
        simp [frameCells, Config.bufferCapacity]
      rw [hcells] at h
      simp only [decodeFrame, hlen, if_true] at h
      split at h
      · cases h; exact .inl ⟨_, rfl⟩
      · split at h
        · next hb => cases h; exact .inr (.inl ⟨_, _, rfl, hc.trans hb⟩)
        · split at h
          · next he => cases h; exact .inr (.inr ⟨_, _, rfl, hc.trans he⟩)
          · cases h

/-! ### What the agent's turn leaves -/

/-- No request is held, the receive path is off, and a released driver's device is powered down: how every
request but a holding one begins and ends. -/
structure AtRest (s : State) : Prop where
  hold : s.hold = .none
  rxEn : s.rxEn = false
  released : s.drvActive = false → s.pwr = .poweredDown

/-- What stands of the control state after every turn of the agent: R44 (2) and (3) as written, a settling wait
that still waits, and a hold that is the current request's. -/
structure Rested (s : State) : Prop where
  window : s.rxEn = true ↔ s.hold = .window
  released : s.drvActive = false → s.pwr = .poweredDown ∨
    (s.pwr = .waking ∧ s.hold = .settle ∧ s.currentRequest = some .sdInit)
  settling : s.hold = .settle → s.pwr = .waking
  fits : HoldFits s

theorem AtRest.rested {s : State} (h : AtRest s) : Rested s where
  window := by simp [h.hold, h.rxEn]
  released := fun hd => .inl (h.released hd)
  settling := by simp [h.hold]
  fits := by simp [HoldFits, h.hold]

/-- A hold that is not lifted stands as the agent left it. -/
theorem State.Inv.rested {s : State} (h : s.Inv) (hl : ¬ HoldLifted s) : Rested s where
  window := ⟨h.rx_window, fun hw => by simpa [HoldLifted, hw] using hl⟩
  released := fun hd => (h.released_down hd).imp_right fun ⟨hs, hc⟩ =>
    ⟨by simpa [HoldLifted, hs] using hl, hs, hc⟩
  settling := fun hs => by simpa [HoldLifted, hs] using hl
  fits := h.hold_fits

/-- What the request at `CP` says of the hold (10_state.md R41). -/
theorem State.Inv.hold_cases {s : State} {i : Instr} (h : s.Inv) (hc : s.currentRequest = some i) :
    s.hold = .none ∨ (s.hold = .settle ∧ (i = .sdInit ∨ i = .scTickCycle ∨ i = .waitSettle)) ∨
      (s.hold = .window ∧ (i = .peExchange ∨ i = .scTickCycle)) ∨ (s.hold = .tick ∧ i = .waitTick) := by
  have hf := h.hold_fits
  unfold HoldFits at hf
  cases hh : s.hold
  · exact .inl rfl
  all_goals simpa [hh, hc] using hf

/-- Once the receive path is off, a state of the invariant at a request other than SD_INIT is at rest as soon as
its hold is released. -/
theorem State.Inv.atRest_release {s : State} {i : Instr} (h : s.Inv) (hc : s.currentRequest = some i)
    (hi : i ≠ .sdInit) (hr : s.rxEn = false) : AtRest (s.setHold .none) where
  hold := rfl
  rxEn := hr
  released := fun hd => (h.released_down hd).resolve_right fun ⟨_, hc'⟩ =>
    hi (Option.some.inj (hc.symm.trans hc'))

/-- Away from the window's hold the receive path is off. -/
theorem State.Inv.rxEn_of_not_window {s : State} (hs : s.Inv) (hw : s.hold ≠ .window) : s.rxEn = false := by
  cases hr : s.rxEn
  · rfl
  · exact absurd (hs.rx_window hr) hw

/-- Where no request is held, a state of the invariant is at rest. -/
theorem State.Inv.atRest {s : State} (h : s.Inv) (hn : s.hold = .none) : AtRest s where
  hold := hn
  rxEn := h.rxEn_of_not_window (by simp [hn])
  released := fun hd => (h.released_down hd).resolve_right (by simp [hn])

/-- Whatever keeps the control state, and the power state of a driver that is not ready, keeps rest. -/
theorem AtRest.keep {s t : State} (h : AtRest s) (hold : t.hold = s.hold) (rx : t.rxEn = s.rxEn)
    (drv : t.drvActive = s.drvActive) (quiet : readyForBus s = false → t.pwr = s.pwr) : AtRest t where
  hold := hold.trans h.hold
  rxEn := rx.trans h.rxEn
  released := fun hd => by
    have hs : s.drvActive = false := drv ▸ hd
    rw [quiet (by simp [readyForBus, hs]), h.released hs]

theorem AtRest.moves {s t : State} (h : AtRest s) (m : Moves s t) : AtRest t :=
  h.keep m.hold m.rxEn m.drvActive fun hr => (m.quiet hr).1

theorem AtRest.body {s t : State} (h : AtRest s) (b : BodyEffect s t) : AtRest t :=
  h.keep b.hold b.rxEn b.drv fun hr => (b.quiet hr).1

theorem AtRest.finish {s : State} (h : AtRest s) (r : Result) : AtRest (s.finish r) := ⟨h.hold, h.rxEn, h.released⟩

/-! ### The instructions that neither hold nor move the session state -/

/-- The instructions that never hold and never move the session state (10_state.md R38, R41). -/
def isPlain : Instr → Bool
  | .sdInit => false | .sdTerm => true | .sdWrite _ _ => true | .sdRead _ => true
  | .sdRefresh => true | .sdGetSr1 => true | .sdGetSr2 => true | .sdWrSr1 _ => true
  | .sdUdpdEnter => true | .sdUdpdExitBegin => true | .sdLoadOtp => true | .sdLog _ => true
  | .sdReadId => true | .sdPrintId => true | .peClear => true | .peAppend _ => true
  | .peExchange => false | .peDispatch => false | .peDump => true | .scBegin => false
  | .scEnd => false | .scSample => true | .scQuiesce => true | .scTickCycle => false
  | .waitTick => false | .waitSettle => false | .hostD _ => false | .hostB _ _ => false
  | .hostE _ _ => false

/-- What a plain instruction keeps: rest, and the session state. -/
structure Plain (s t : State) : Prop where
  rest : AtRest s → AtRest t
  logging : t.df.logging = s.df.logging

theorem Plain.refl (s : State) : Plain s s := ⟨id, rfl⟩

theorem Plain.ofMoves {s t : State} (m : Moves s t) : Plain s t := ⟨fun h => h.moves m, m.logging⟩

theorem Plain.finish {s t : State} (h : Plain s t) (r : Result) : Plain s (t.finish r) :=
  ⟨fun hs => (h.rest hs).finish r, h.logging⟩

/-- A plain body makes a plain request, whether it completes or faults. -/
theorem nexts_plain {α : Type} {s : State} {f : α → Result} {b : Body α} {P : State → Prop} (hb : b.Ends s P)
    (h : ∀ t, P t → Moves s t) : Nexts (completeBody f b) (Plain s) :=
  nexts_body hb (fun _ _ ht _ => (Plain.ofMoves (h _ ht)).finish _) fun _ ht _ => Plain.ofMoves (h _ ht)

theorem appendBody_frame (c : Byte) (s : State) :
    appendBody c s = { s with
      buf := (appendBody c s).buf
      idx := (appendBody c s).idx
      wovf := (appendBody c s).wovf
      df := { s.df with cmdOverflow := (appendBody c s).df.cmdOverflow } } := by
  unfold appendBody
  split <;> rfl

theorem appendBody_plain (c : Byte) (s : State) : Plain s (appendBody c s) := by
  rw [appendBody_frame]
  exact ⟨fun h => ⟨h.hold, h.rxEn, h.released⟩, rfl⟩

theorem udpdExitBody_plain (s : State) : Plain s (udpdExitBody s).2 := by
  unfold udpdExitBody
  split
  · next hd =>
    split
    · exact ⟨fun h => ⟨h.hold, h.rxEn, fun hn => by simp [hd] at hn⟩, rfl⟩
    · exact Plain.refl s
  · exact Plain.ofMoves (Moves.flagViolation s)

theorem execSdTerm_plain (s : State) : Nexts (execSdTerm s) (Plain s) := by
  unfold execSdTerm
  split
  · exact nexts_complete ((Plain.ofMoves (Moves.flagViolation s)).finish _)
  · split
    · exact nexts_complete ((Plain.refl s).finish _)
    · split
      · exact nexts_complete ⟨fun h => ⟨h.hold, h.rxEn, fun _ => rfl⟩, rfl⟩
      · exact nexts_complete ⟨fun h => ⟨h.hold, h.rxEn, fun _ => rfl⟩, rfl⟩

theorem execSdWrSr1_plain (v : Byte) (s : State) : Nexts (execSdWrSr1 v s) (Plain s) := by
  unfold execSdWrSr1
  split
  · next hr =>
    split
    · exact nexts_complete ((Plain.refl s).finish _)
    · exact nexts_complete ((Plain.ofMoves (Moves.txn (.wrsr1 v) answerNothing noReply s hr .busy (by simp) s.sr1c
        s.sr2c false)).finish _)
  · exact nexts_complete ((Plain.ofMoves (Moves.flagViolation s)).finish _)

theorem execSdLoadOtp_plain (s : State) : Nexts (execSdLoadOtp s) (Plain s) := by
  unfold execSdLoadOtp
  split
  · next hr =>
    have hb : Plain s (busOtpRead s).state := Plain.ofMoves (txn_moves .otpRead _ .bytes hr)
    split
    · exact nexts_complete ((Plain.refl s).finish _)
    · dsimp only
      split
      · exact nexts_complete ⟨fun h => ⟨h.hold, h.rxEn, (hb.rest h).released⟩, hb.logging⟩
      · exact nexts_complete (hb.finish _)
  · exact nexts_complete ((Plain.ofMoves (Moves.flagViolation s)).finish _)

theorem execSdPrintId_plain (s : State) : Nexts (execSdPrintId s) (Plain s) := by
  obtain ⟨hm, -, -⟩ := readIdBody_moves s
  unfold execSdPrintId
  split
  · next heq =>
    rw [heq] at hm
    exact nexts_complete ((Plain.ofMoves (hm.trans (Moves.transmit _ _))).finish _)
  · next heq =>
    rw [heq] at hm
    exact nexts_complete ((Plain.ofMoves hm).finish _)

/-- Every plain instruction keeps a state at rest at rest, and the session state. -/
theorem exec_plain {i : Instr} (s : State) (h : isPlain i = true) : Nexts (exec i s) (Plain s) := by
  cases i <;> simp only [isPlain, Bool.false_eq_true] at h <;> simp only [exec]
  case sdTerm => exact execSdTerm_plain s
  case sdWrite a v => exact nexts_plain (writeBody_ends a v s) fun _ ht => ht.1
  case sdRead a => exact nexts_plain (readBody_ends a s) fun _ ht => ht.1
  case sdRefresh => exact nexts_complete ((Plain.ofMoves (refreshBody_moves s).1).finish _)
  case sdGetSr1 => exact nexts_complete ((Plain.refl s).finish _)
  case sdGetSr2 => exact nexts_complete ((Plain.refl s).finish _)
  case sdWrSr1 v => exact execSdWrSr1_plain v s
  case sdUdpdEnter => exact nexts_complete ((Plain.ofMoves (udpdEnterBody_moves s).1).finish _)
  case sdUdpdExitBegin => exact nexts_complete ((udpdExitBody_plain s).finish _)
  case sdLoadOtp => exact execSdLoadOtp_plain s
  case sdLog v => exact nexts_plain (logBody_ends v s) fun _ ht => ht.1
  case sdReadId => exact nexts_complete ((Plain.ofMoves (readIdBody_moves s).1).finish _)
  case sdPrintId => exact execSdPrintId_plain s
  case peClear => exact nexts_complete ⟨fun h => ⟨h.hold, h.rxEn, h.released⟩, rfl⟩
  case peAppend c => exact nexts_complete ((appendBody_plain c s).finish _)
  case peDump => exact nexts_plain (dumpBody_ends s) fun _ ht => ht.1
  case scSample => exact nexts_plain (sampleBody_ends s) fun _ ht => ht.1
  case scQuiesce => exact nexts_complete ((Plain.ofMoves (quiesceBody_moves s).1).finish _)

/-! ### Dispatch and the holding requests -/

/-- A body run from a state at rest ends at rest. -/
theorem nexts_atRest {α : Type} {s : State} {f : α → Result} {b : Body α} (h : AtRest s)
    (hb : b.Ends s (BodyEffect s)) : Nexts (completeBody f b) AtRest :=
  nexts_body hb (fun _ _ ht _ => (h.body ht).finish _) fun _ ht _ => h.body ht

/-- The end of a tick cycle after a dispatch that ended at rest. -/
theorem tickAfterDispatch_atRest {s : State} {b : Body Unit} (h : AtRest s) (hb : b.Ends s (BodyEffect s)) :
    Nexts (tickAfterDispatch b) AtRest := by
  cases b with
  | faulted t => exact nexts_next (h.body hb.1)
  | done u t =>
    have ht : AtRest t := h.body hb.1
    exact nexts_body (tickAfterWindow_ends t) (fun _ _ hu _ => (ht.moves hu.1).finish _) fun _ hu _ => ht.moves hu.1

theorem clearAfter_effect {s : State} {b : Body Unit} (h : b.Ends s (BodyEffect s)) :
    (clearAfter b).Ends s (BodyEffect s) := by
  cases b with
  | faulted t => exact h
  | done u t => exact ⟨h.1.clear, h.2⟩

/-- A host command from a hold whose release is at rest ends at rest. -/
theorem hostCommand_atRest {b : State → Body Unit} {s : State} (h : AtRest (s.setHold .none))
    (hb : ∀ u : State, (b u).Ends u (BodyEffect u)) : Nexts (hostCommand b s) AtRest := by
  have hc := clearAfter_effect (hb (s.setHold .none))
  unfold hostCommand
  dsimp only
  split
  · exact tickAfterDispatch_atRest h hc
  · exact nexts_atRest h hc

theorem dispatchBody_effect (s : State) : (dispatchBody s).Ends s (BodyEffect s) :=
  Body.Ends.imp (dispatchBody_ends s) fun _ h => h.1

theorem dumpBody_effect (s : State) : (dumpBody s).Ends s (BodyEffect s) :=
  Body.Ends.imp (dumpBody_ends s) fun _ h => BodyEffect.ofMoves h.1 h.2.once

/-- A window opened from rest by a request that may hold at it. -/
theorem AtRest.openWindow_rested {s : State} (h : AtRest s)
    (hc : s.currentRequest = some .peExchange ∨ s.currentRequest = some .scTickCycle) : Rested (openWindow s) where
  window := by simp
  released := fun hd => .inl (h.released hd)
  settling := by simp
  fits := hc

/-- A settling wait begun from rest by a request that may hold at it: a waking device's driver is not released. -/
theorem AtRest.settle_rested {s : State} (h : AtRest s) (hw : s.pwr = .waking)
    (hc : s.currentRequest = some .scTickCycle ∨ s.currentRequest = some .waitSettle) :
    Rested (s.setHold .settle) where
  window := by simp [h.rxEn]
  released := fun hd => .inl (h.released hd)
  settling := fun _ => hw
  fits := .inr hc

/-- SC_TICK_CYCLE up to its window. -/
theorem tickToWindow_rested {s : State} (h : AtRest s) (hc : s.currentRequest = some .scTickCycle) :
    Nexts (tickToWindow s) Rested := by
  unfold tickToWindow
  split
  · exact nexts_next (h.openWindow_rested (.inr hc))
  · have hb := sampleBody_ends s
    split
    · next heq =>
      rw [heq] at hb
      exact nexts_next (h.moves hb.1.1).rested
    · next heq =>
      rw [heq] at hb
      exact nexts_next ((h.moves hb.1.1).openWindow_rested (.inr (hb.1.1.currentRequest.trans hc)))

/-- SD_UDPD_EXIT_BEGIN's body leaves the program counter and the program alone. -/
theorem udpdExitBody_currentRequest (s : State) : (udpdExitBody s).2.currentRequest = s.currentRequest := by
  unfold udpdExitBody
  split
  · split <;> rfl
  · rfl

theorem tickBegin_rested {s : State} (h : AtRest s) (hc : s.currentRequest = some .scTickCycle) :
    Nexts (tickBegin s) Rested := by
  have key : ∀ u : State, AtRest u → u.currentRequest = some .scTickCycle →
      Nexts (if u.pwr = .waking then .next (u.setHold .settle) else tickToWindow u) Rested := by
    intro u hu huc
    split
    · next hw => exact nexts_next (hu.settle_rested hw (.inl huc))
    · exact tickToWindow_rested hu huc
  unfold tickBegin
  dsimp only
  split
  · exact key _ ((udpdExitBody_plain s).rest h) ((udpdExitBody_currentRequest s).trans hc)
  · exact key s h hc

theorem Nexts.atRest_rested {o : Host.Outcome State Fault Refusal} (h : Nexts o AtRest) : Nexts o Rested :=
  fun t ht => (h t ht).rested

section
variable {s : State} (hs : s.Inv)
include hs

theorem execSdInit_rested (hc : s.currentRequest = some .sdInit) : Nexts (execSdInit s) Rested := by
  unfold execSdInit
  split
  · next hold =>
    split
    · next hw => exact nexts_next (hs.rested (by simp [HoldLifted, hold, hw]))
    · have hrx := hs.rxEn_of_not_window (by simp [hold])
      have hrest : AtRest (initIdentify s).2 := by
        unfold initIdentify
        dsimp only
        split <;> exact ⟨rfl, hrx, fun hd => by cases hd⟩
      exact nexts_complete (hrest.finish _).rested
  · next hold =>
    have hr := hs.atRest (by simpa [hold] using hs.hold_cases hc)
    split
    · exact nexts_complete ((hr.moves (Moves.flagViolation s)).finish _).rested
    · exact nexts_next
        { window := by simp [hr.rxEn]
          released := fun _ => .inr ⟨rfl, rfl, hc⟩
          settling := fun _ => rfl
          fits := .inl hc }

theorem execPeExchange_rested (hc : s.currentRequest = some .peExchange) : Nexts (execPeExchange s) Rested := by
  unfold execPeExchange
  split
  · next hold =>
    split
    · next hrx => exact nexts_next (hs.rested (by simp [HoldLifted, hold, hrx]))
    · next hrx =>
      have hr := hs.atRest_release hc (by simp) (by simpa using hrx)
      exact (nexts_atRest hr (dispatchBody_effect _)).atRest_rested
  · next hold =>
    have hr := hs.atRest_release hc (by simp) (hs.rxEn_of_not_window hold)
    exact nexts_next (hr.openWindow_rested (.inl hc))

theorem execScTickCycle_rested (hc : s.currentRequest = some .scTickCycle) : Nexts (execScTickCycle s) Rested := by
  have hrest := hs.atRest_release hc (by simp)
  unfold execScTickCycle
  split
  · next hold =>
    split
    · next hw => exact nexts_next (hs.rested (by simp [HoldLifted, hold, hw]))
    · exact tickToWindow_rested (hrest (hs.rxEn_of_not_window (by simp [hold]))) hc
  · next hsettle =>
    split
    · next hold =>
      split
      · next hrx => exact nexts_next (hs.rested (by simp [HoldLifted, hold, hrx]))
      · next hrx => exact (tickAfterDispatch_atRest (hrest (by simpa using hrx)) (dispatchBody_effect _)).atRest_rested
    · next hwindow =>
      exact tickBegin_rested (hs.atRest (by simpa [hsettle, hwindow] using hs.hold_cases hc)) hc

theorem execWaitTick_rested (hc : s.currentRequest = some .waitTick) : Nexts (execWaitTick s) Rested := by
  have hwindow : s.hold ≠ .window := fun hh => by simpa [hh] using hs.hold_cases hc
  have hr := hs.atRest_release hc (by simp) (hs.rxEn_of_not_window hwindow)
  unfold execWaitTick
  split
  · exact nexts_complete (AtRest.rested ⟨rfl, hr.rxEn, hr.released⟩)
  · exact nexts_next
      { window := by simp [hs.rxEn_of_not_window hwindow]
        released := fun hd => .inl (hr.released hd)
        settling := by simp
        fits := hc }

theorem execWaitSettle_rested (hc : s.currentRequest = some .waitSettle) : Nexts (execWaitSettle s) Rested := by
  have hwindow : s.hold ≠ .window := fun hh => by simpa [hh] using hs.hold_cases hc
  have hr := hs.atRest_release hc (by simp) (hs.rxEn_of_not_window hwindow)
  unfold execWaitSettle
  split
  · next hw => exact nexts_next (hr.settle_rested hw (.inr hc))
  · exact nexts_complete (hr.finish _).rested

end

theorem hostCommand_exec_atRest {i : Instr} {s : State} (h : AtRest (s.setHold .none)) (hi : isHostCommand i = true) :
    Nexts (exec i s) AtRest := by
  cases i <;> simp only [isHostCommand, Bool.false_eq_true] at hi <;> simp only [exec]
  case hostD rest => exact hostCommand_atRest h dumpBody_effect
  case hostB ts f =>
    exact hostCommand_atRest h fun u => ⟨(beginBody_effect ts u).1, (beginBody_effect ts u).2.2⟩
  case hostE ts f =>
    exact hostCommand_atRest h fun u => ⟨(endBody_effect ts u).1, (endBody_effect ts u).2.2⟩

/-- The request at `CP`, begun or resumed in a state of the invariant, leaves it rested. -/
theorem State.Inv.exec_rested {s : State} {i : Instr} (hs : s.Inv) (hc : s.currentRequest = some i) :
    Nexts (exec i s) Rested := by
  have hold := hs.hold_cases hc
  by_cases hp : isPlain i = true
  · have hnone : s.hold = .none := by
      rcases hold with h | ⟨-, rfl | rfl | rfl⟩ | ⟨-, rfl | rfl⟩ | ⟨-, rfl⟩
      · exact h
      all_goals simp [isPlain] at hp
    exact fun t ht => ((exec_plain s hp t ht).rest (hs.atRest hnone)).rested
  have hhost := not_hostCommand_of_currentRequest hc
  cases i <;> simp only [isPlain, isHostCommand, not_true, Bool.true_eq_false] at hp hhost <;> simp only [exec]
  case sdInit => exact execSdInit_rested hs hc
  case peExchange => exact execPeExchange_rested hs hc
  case scTickCycle => exact execScTickCycle_rested hs hc
  case waitTick => exact execWaitTick_rested hs hc
  case waitSettle => exact execWaitSettle_rested hs hc
  case peDispatch =>
    exact (nexts_atRest (hs.atRest (by simpa using hold)) (dispatchBody_effect s)).atRest_rested
  case scBegin =>
    exact nexts_complete (((hs.atRest (by simpa using hold)).body (beginBody_effect _ s).1).finish _).rested
  case scEnd =>
    exact nexts_complete (((hs.atRest (by simpa using hold)).body (endBody_effect _ s).1).finish _).rested

/-- So does whatever instruction the agent's turn runs, a closed window's command included. -/
theorem State.Inv.run_rested {s : State} {i : Instr} (hs : s.Inv) (ha : s.nextAction = .run i) :
    Nexts (exec i s) Rested := by
  rcases nextAction_run ha with hc | ⟨-, hrx, hcmd, hc⟩
  · exact hs.exec_rested hc
  · have hr : AtRest (s.setHold .none) := by
      rcases hc with hc | hc <;> exact hs.atRest_release hc (by simp) hrx
    have hi : isHostCommand i = true := by
      obtain ⟨-, ⟨_, rfl⟩ | ⟨_, _, rfl, -⟩ | ⟨_, _, rfl, -⟩⟩ := command_cases hcmd <;> rfl
    exact (hostCommand_exec_atRest hr hi).atRest_rested

/-! ### The invariant -/

/-- Which draws have been taken, and which turn is next, is no part of the invariant. -/
theorem State.Inv.setEnv {s : State} (hs : s.Inv) (e : Env) : ({ s with env := e } : State).Inv := { hs with }

/-- Where no word is at `CP` no request is held. -/
theorem State.Inv.hold_none {s : State} (hs : s.Inv) (hc : s.currentRequest = none) : s.hold = .none := by
  have hf := hs.hold_fits
  unfold HoldFits at hf
  cases hh : s.hold <;> simp [hh, hc] at hf ⊢

/-- At rest the invariant does not depend on `CP`. -/
theorem State.Inv.setCp {s : State} (hs : s.Inv) (hn : s.hold = .none) (n : Nat) : ({ s with cp := n } : State).Inv :=
  { hs with
    released_down := fun hd => .inl ((hs.atRest hn).released hd)
    hold_fits := by simp [HoldFits, hn] }

/-- The goto is taken only past the last word, where no request is held. -/
theorem State.Inv.followGoto {s : State} (hs : s.Inv) : s.followGoto.Inv := by
  rcases hw : s.fetchWord with _ | w
  · rw [followGoto_frame]
    exact hs.setCp (hs.hold_none (by simp [State.currentRequest, hw])) _
  · rwa [followGoto_of_fetch hw]

/-- Under the invariant the cursor moves by one word at most, inside the store and without wrapping (20_memory.md
R76). -/
theorem InstrEffect.cursor_toNat {s t : State} (h : InstrEffect s t) (hs : s.Inv) :
    t.cursor.toNat = s.cursor.toNat ∨
      (t.cursor.toNat = s.cursor.toNat + 1 ∧ s.cursor.toNat + 1 < s.cfg.nvmWords) := by
  have hlt := hs.cursor_lt
  have hmax : s.cfg.nvmWords ≤ 65536 := by
    have hwf := hs.cfg_wf
    simp only [Params.wf, Bool.and_eq_true, decide_eq_true_eq] at hwf
    tauto
  rcases h.cursor with hc | ⟨hc, hne⟩
  · exact .inl (congrArg _ hc)
  · rw [hc, BitVec.toNat_add]
    have hone : (1 : Word).toNat = 1 := rfl
    omega

/-- What an instruction leaves keeps the invariant, once its control state is rested. -/
theorem State.Inv.of_effect {s t : State} (hs : s.Inv) (h : InstrEffect s t) (hf : s.faults = []) (hr : Rested t) :
    t.Inv where
  cfg_wf := h.cfg ▸ hs.cfg_wf
  idx_le := h.idx_le hs.idx_le
  rx_window := hr.window.1
  released_down := fun hd => (hr.released hd).imp_right And.right
  settling := fun hh => .inl (hr.settling hh)
  cs_low := h.cs_low hs.cs_low
  cursor_lt := by
    have hlt := hs.cursor_lt
    have hc := h.cursor_toNat hs
    rw [h.cfg]
    omega
  base_le := by
    have hle := hs.base_le
    have hc := h.cursor_toNat hs
    rcases h.base with ⟨hb, -⟩ | ⟨-, -, hb⟩ <;> rw [hb] <;> omega
  wovf_full := h.wovf_full hs.idx_le hs.wovf_full
  cmd_error := h.cmdError.trans hs.cmd_error
  otp_len := h.otp hs.cfg_wf hs.otp_len
  log_wf := h.log_wf hs.log_wf
  one_fault := by rcases h.faults with h' | ⟨f, h'⟩ <;> simp [h', hf]
  hold_fits := hr.fits

/-! ### Events -/

/-- A received byte fills the buffer or sets the overflow flags, no more (41_protocol_engine.md R182). -/
theorem State.Inv.appendBody {s : State} (hs : s.Inv) (c : Byte) : (appendBody c s).Inv := by
  have h := appendBody_effect c s
  rw [appendBody_frame] at h ⊢
  exact { hs with
    idx_le := h.idx_le hs.idx_le
    wovf_full := h.wovf_full hs.idx_le hs.wovf_full }

/-- Every event keeps the invariant. -/
theorem State.Inv.applyEvent {s : State} (hs : s.Inv) (ev : Event) : (applyEvent ev s).Inv := by
  cases ev with
  | rx c =>
    simp only [Machine.applyEvent, eventRx]
    split
    · exact hs.appendBody c
    · exact hs
  | tick => exact { hs with }
  | timeout =>
    simp only [Machine.applyEvent, eventTimeout]
    split
    · exact { hs with rx_window := fun h => by cases h }
    · exact hs
  | settled =>
    simp only [Machine.applyEvent, eventSettled]
    split
    · next hw =>
      exact { hs with
        released_down := fun hd => .inr ((hs.released_down hd).resolve_left (by simp [hw]))
        settling := fun _ => .inr rfl }
    · exact hs

/-! ### Every step -/

/-- What a turn of the agent leaves of a state of the invariant, the next state being its effect or the refusal of
a word. -/
theorem State.Inv.agent_step {s s' : State} {e : Env} (hs : s.Inv) (ht : s.env.drawTurn = (.agent, e))
    (h : step s = .next s') : s'.Inv ∧ Rested s' := by
  rcases stepKind_of_step h with ⟨ev, e', ht', -⟩ | ⟨i, e', -, live, act, ex⟩ | ⟨e', -, act, rfl⟩ | ⟨e', -, act, rfl⟩
  · simp [ht] at ht'
  · have hg := (hs.setEnv e').followGoto
    have hr := hg.run_rested act _ ex
    exact ⟨hs.of_effect (exec_effect i _ _ ex).of_followGoto live hr, hr⟩
  · have hg := (hs.setEnv e').followGoto
    have hrest := hg.atRest (hg.hold_none (currentRequest_of_not_run (.inl act)))
    exact ⟨{ hg with }, { hrest.rested with }⟩
  · have hg := hs.setEnv e'
    have hgoto := hg.followGoto
    have hnone := hgoto.hold_none (currentRequest_of_not_run (.inr act))
    rw [followGoto_frame] at hnone
    exact ⟨hg, (hg.atRest hnone).rested⟩

/-- An event's step, in terms of the event. -/
theorem event_step {s s' : State} {ev : Event} {e : Env} (ht : s.env.drawTurn = (.event ev, e))
    (h : step s = .next s') : s' = applyEvent ev { s with env := e } := by
  rw [step_event ht] at h
  exact (Host.Outcome.next.inj h).symm

/-- Settles O38: an event keeps the invariant by `State.Inv.applyEvent`, a turn of the agent by what it leaves. -/
theorem stepKeepsTheInvariant : Obligations.StepKeepsTheInvariant := by
  intro s s' hs h
  rcases ht : s.env.drawTurn with ⟨_ | ev, e⟩
  · exact (hs.agent_step ht h).1
  · rw [event_step ht h]
    exact (hs.setEnv e).applyEvent ev

/-! ### What no step clears or changes -/

/-- What every step keeps, whoever moves: the configuration, and whatever is set for good (10_state.md R31, R37,
R42, R43). -/
structure Lasting (s t : State) : Prop where
  cfg : t.cfg = s.cfg
  program : t.program = s.program
  cmdError : t.df.cmdError = s.df.cmdError
  mem : s.df.memError = true → t.df.memError = true
  temp : s.df.tempError = true → t.df.tempError = true
  ovf : s.df.cmdOverflow = true → t.df.cmdOverflow = true
  viol : s.violation = true → t.violation = true
  refused : s.refused = true → t.refused = true
  faults : s.faults <+: t.faults

theorem Lasting.refl (s : State) : Lasting s s := ⟨rfl, rfl, rfl, id, id, id, id, id, List.prefix_refl _⟩

theorem InstrEffect.lasting {s t : State} (h : InstrEffect s t) : Lasting s t :=
  { h with
    refused := fun hr => h.refused.trans hr
    faults := by
      rcases h.faults with h' | ⟨f, h'⟩ <;> rw [h']
      exact List.prefix_append _ _ }

theorem applyEvent_lasting (ev : Event) (s : State) : Lasting s (applyEvent ev s) := by
  obtain ⟨_, _, _, _, _, _, _, heq, rfl | rfl, -⟩ := applyEvent_frame ev s <;> rw [heq]
  · exact { Lasting.refl s with }
  · exact { Lasting.refl s with ovf := fun _ => rfl }

theorem step_lasting {s s' : State} (h : step s = .next s') : Lasting s s' := by
  rcases stepKind_of_step h with ⟨ev, e, -, rfl⟩ | ⟨i, e, -, -, -, ex⟩ | ⟨e, -, -, rfl⟩ | ⟨e, -, -, rfl⟩
  · exact { applyEvent_lasting ev { s with env := e } with }
  · exact (exec_effect i _ _ ex).of_followGoto.lasting
  · rw [followGoto_frame]
    exact { Lasting.refl s with refused := fun _ => rfl }
  · exact { Lasting.refl s with }

/-- Settles O40, from what every step keeps (`step_lasting`). -/
theorem stickyBitsStaySet : Obligations.StickyBitsStaySet := by
  intro s s' h
  have hl := step_lasting h
  exact ⟨hl.mem, hl.temp, hl.ovf, hl.cmdError.trans, hl.viol, hl.refused, hl.faults⟩

/-- Settles O42, from what every step keeps (`step_lasting`). -/
theorem configurationIsFixed : Obligations.ConfigurationIsFixed := by
  intro s s' h
  have hl := step_lasting h
  exact ⟨hl.cfg, hl.program, hl.cmdError⟩

/-! ### R44 as written -/

/-- R44 (1) to (7) as written is the invariant with a rested control state. -/
theorem State.Inv.r44 {s : State} (hs : s.Inv) (hr : Rested s) : s.R44 where
  buffer := hs.idx_le
  window := hr.window
  released := fun hd => (hr.released hd).imp_right And.left
  released_waking := fun hw hd => ((hr.released hd).resolve_left (by simp [hw])).2
  cs_low := hs.cs_low
  cursor := hs.cursor_lt
  base := hs.base_le
  overflow := hs.wovf_full

/-- Where a claim may speak of registers no hold is lifted (60_exceptions.md R257; log 24). -/
theorem State.observed.not_holdLifted {s : State} (h : s.observed) : ¬ HoldLifted s := by
  rcases h with h | ⟨-, h⟩
  · have hn : s.hold = .none := by
      simp only [State.ended, Bool.and_eq_true, decide_eq_true_eq] at h
      tauto
    simp [HoldLifted, hn]
  · exact h

theorem State.R44.setEnv {s : State} (h : s.R44) (e : Env) : ({ s with env := e } : State).R44 := { h with }

theorem State.R44.appendBody {s : State} (h : s.R44) (c : Byte) : (appendBody c s).R44 := by
  have ha := appendBody_effect c s
  rw [appendBody_frame] at ha ⊢
  exact { h with
    buffer := ha.idx_le h.buffer
    overflow := ha.wovf_full h.buffer h.overflow }

/-- An event that lifts no hold keeps R44 as written. -/
theorem State.R44.applyEvent {s : State} (h : s.R44) {ev : Event} (hto : s.hold = .window → ev ≠ .timeout)
    (hse : s.drvActive = false → ev ≠ .settled) : (applyEvent ev s).R44 := by
  cases ev with
  | rx c =>
    simp only [Machine.applyEvent, eventRx]
    split
    · exact h.appendBody c
    · exact h
  | tick => exact { h with }
  | timeout =>
    have hw : s.hold ≠ .window := fun hh => hto hh rfl
    simpa [Machine.applyEvent, eventTimeout, hw] using h
  | settled =>
    simp only [Machine.applyEvent, eventSettled]
    split
    · exact { h with
        released := fun hd => absurd rfl (hse hd)
        released_waking := fun hw => by cases hw }
    · exact h

/-- Settles O55: where no hold is lifted, and after a turn of the agent, the control state is rested. -/
theorem r44HoldsBetweenResumptions : Obligations.R44HoldsBetweenResumptions := by
  refine ⟨fun s hs ho => hs.r44 (hs.rested ho.not_holdLifted), fun s hs hl => hs.r44 (hs.rested hl),
    fun s s' e hs ht h => ?_, fun s s' ev e _ hr ht h hto hse => ?_⟩
  · obtain ⟨hi, hrest⟩ := hs.agent_step ht h
    exact hi.r44 hrest
  · rw [event_step ht h]
    exact (hr.setEnv e).applyEvent hto hse

/-! ### The session state -/

/-- What may move the session state: the two transitions, PE_DISPATCH, the two host commands, or a window that has
closed on a frame that begins with `B` or `E` (10_state.md R38). -/
inductive MovesSession (s : State) : Instr → Prop
  | scBegin : MovesSession s .scBegin
  | scEnd : MovesSession s .scEnd
  | peDispatch : MovesSession s .peDispatch
  | hostB (ts : List Byte) (f : Byte) : MovesSession s (.hostB ts f)
  | hostE (ts : List Byte) (f : Byte) : MovesSession s (.hostE ts f)
  | window (i : Instr) (hold : s.hold = .window) (rx : s.rxEn = false) (idx : s.idx ≠ 0)
      (frame : s.buf[0] = 0x42#8 ∨ s.buf[0] = 0x45#8) : MovesSession s i

/-- What follows a dispatch in a tick cycle leaves the session state to the dispatch. -/
theorem tickAfterDispatch_logging {s : State} {b : Body Unit} {P : State → Prop} (hb : b.Ends s P) :
    Nexts (tickAfterDispatch b) fun t => ∃ u, P u ∧ t.df.logging = u.df.logging := by
  cases b with
  | faulted u => exact nexts_next ⟨u, hb.1, rfl⟩
  | done _ u =>
    exact nexts_body (tickAfterWindow_ends u) (fun _ _ ht _ => ⟨u, hb.1, ht.1.logging⟩)
      fun _ ht _ => ⟨u, hb.1, ht.1.logging⟩

theorem completeBody_logging {α : Type} {s : State} {f : α → Result} {b : Body α} {P : State → Prop}
    (hb : b.Ends s P) : Nexts (completeBody f b) fun t => ∃ u, P u ∧ t.df.logging = u.df.logging :=
  nexts_body hb (fun t _ ht _ => ⟨t, ht, rfl⟩) fun t ht _ => ⟨t, ht, rfl⟩

theorem tickToWindow_logging (s : State) : Nexts (tickToWindow s) fun t => t.df.logging = s.df.logging := by
  unfold tickToWindow
  split
  · exact nexts_next rfl
  · have hb := sampleBody_ends s
    split <;> next heq =>
      rw [heq] at hb
      exact nexts_next hb.1.1.logging

theorem tickBegin_logging (s : State) : Nexts (tickBegin s) fun t => t.df.logging = s.df.logging := by
  have key : ∀ u : State, u.df.logging = s.df.logging →
      Nexts (if u.pwr = .waking then .next (u.setHold .settle) else tickToWindow u)
        fun t => t.df.logging = s.df.logging := by
    intro u hu
    split
    · exact nexts_next hu
    · exact fun t ht => (tickToWindow_logging u t ht).trans hu
  unfold tickBegin
  dsimp only
  split
  · exact key _ (udpdExitBody_plain s).logging
  · exact key s rfl

theorem hostD_logging (rest : List Byte) (s : State) :
    Nexts (exec (.hostD rest) s) fun t => t.df.logging = s.df.logging := by
  have hb : (clearAfter (dumpBody (s.setHold .none))).Ends (s.setHold .none) fun t => t.df.logging = s.df.logging := by
    have h := dumpBody_ends (s.setHold .none)
    cases hd : dumpBody (s.setHold .none) <;> rw [hd] at h <;> exact ⟨h.1.1.logging, h.2⟩
  simp only [exec, execHostD, hostCommand]
  split
  · exact fun t ht => by
      obtain ⟨u, hu, htu⟩ := tickAfterDispatch_logging hb t ht
      exact htu.trans hu
  · exact nexts_body hb (fun _ _ h _ => h) fun _ h _ => h

theorem execSdInit_logging (s : State) : Nexts (execSdInit s) fun t => t.df.logging = s.df.logging := by
  unfold execSdInit
  split
  · split
    · exact nexts_next rfl
    · have h : (initIdentify s).2.df.logging = s.df.logging := by
        unfold initIdentify
        dsimp only
        split <;> rfl
      exact nexts_complete h
  · split
    · exact nexts_complete rfl
    · exact nexts_next rfl

theorem execWaitTick_logging (s : State) : Nexts (execWaitTick s) fun t => t.df.logging = s.df.logging := by
  unfold execWaitTick
  split
  · exact nexts_complete rfl
  · exact nexts_next rfl

theorem execWaitSettle_logging (s : State) : Nexts (execWaitSettle s) fun t => t.df.logging = s.df.logging := by
  unfold execWaitSettle
  split
  · exact nexts_next rfl
  · exact nexts_complete rfl

theorem execPeExchange_logging (s : State) :
    Nexts (execPeExchange s) fun t => t.df.logging ≠ s.df.logging → MovesSession s .peExchange := by
  unfold execPeExchange
  split
  · next hold =>
    split
    · exact nexts_next fun hne => absurd rfl hne
    · next hrx =>
      intro t ht hne
      obtain ⟨u, ⟨-, -, hu⟩, htu⟩ := completeBody_logging (dispatchBody_ends _) t ht
      obtain ⟨hidx, hframe⟩ := hu (htu ▸ hne)
      exact .window _ hold (by simpa using hrx) hidx hframe
  · exact nexts_next fun hne => absurd rfl hne

theorem execScTickCycle_logging (s : State) :
    Nexts (execScTickCycle s) fun t => t.df.logging ≠ s.df.logging → MovesSession s .scTickCycle := by
  unfold execScTickCycle
  split
  · split
    · exact nexts_next fun hne => absurd rfl hne
    · exact fun t ht hne => absurd (tickToWindow_logging _ t ht) hne
  · split
    · next hold =>
      split
      · exact nexts_next fun hne => absurd rfl hne
      · next hrx =>
        intro t ht hne
        obtain ⟨u, ⟨-, -, hu⟩, htu⟩ := tickAfterDispatch_logging (dispatchBody_ends _) t ht
        obtain ⟨hidx, hframe⟩ := hu (htu ▸ hne)
        exact .window _ hold (by simpa using hrx) hidx hframe
    · exact fun t ht hne => absurd (tickBegin_logging s t ht) hne

/-- Only the instructions of `MovesSession` change `DF.LOGGING`. -/
theorem exec_logging (i : Instr) (s : State) :
    Nexts (exec i s) fun t => t.df.logging ≠ s.df.logging → MovesSession s i := by
  by_cases hp : isPlain i = true
  · exact fun t ht hne => absurd (exec_plain s hp t ht).logging hne
  cases i <;> simp only [isPlain, not_true] at hp <;> simp only [exec]
  case sdInit => exact fun t ht hne => absurd (execSdInit_logging s t ht) hne
  case peExchange => exact execPeExchange_logging s
  case peDispatch => exact fun _ _ _ => .peDispatch
  case scBegin => exact fun _ _ _ => .scBegin
  case scEnd => exact fun _ _ _ => .scEnd
  case scTickCycle => exact execScTickCycle_logging s
  case waitTick => exact fun t ht hne => absurd (execWaitTick_logging s t ht) hne
  case waitSettle => exact fun t ht hne => absurd (execWaitSettle_logging s t ht) hne
  case hostD rest => exact fun t ht hne => absurd (hostD_logging rest s t ht) hne
  case hostB ts f => exact fun _ _ _ => .hostB ts f
  case hostE ts f => exact fun _ _ _ => .hostE ts f

/-- The instruction of the agent's turn moves the session state only as SC_BEGIN, SC_END or PE_DISPATCH at `CP`, or
in a window that has closed on a frame that begins with `B` or `E`. -/
theorem MovesSession.cases_of_run {s : State} {i : Instr} (hm : MovesSession s i) (ha : s.nextAction = .run i) :
    s.currentRequest = some .scBegin ∨ s.currentRequest = some .scEnd ∨ s.currentRequest = some .peDispatch ∨
      s.hold = .window ∧ s.rxEn = false ∧ s.idx ≠ 0 ∧ (s.buf[0] = 0x42#8 ∨ s.buf[0] = 0x45#8) := by
  rcases nextAction_run ha with hc | ⟨hold, hrx, hcmd, -⟩
  · have hhost := not_hostCommand_of_currentRequest hc
    cases hm with
    | scBegin => exact .inl hc
    | scEnd => exact .inr (.inl hc)
    | peDispatch => exact .inr (.inr (.inl hc))
    | hostB ts f => cases hhost
    | hostE ts f => cases hhost
    | window _ hold rx idx frame => exact .inr (.inr (.inr ⟨hold, rx, idx, frame⟩))
  · obtain ⟨hidx, hframe⟩ := command_cases hcmd
    have hBE : s.buf[0] = 0x42#8 ∨ s.buf[0] = 0x45#8 := by
      rcases hframe with ⟨rest, rfl⟩ | ⟨_, _, -, hb⟩ | ⟨_, _, -, hb⟩
      · cases hm with
        | window _ _ _ _ frame => exact frame
      · exact .inl hb
      · exact .inr hb
    exact .inr (.inr (.inr ⟨hold, hrx, hidx, hBE⟩))

theorem followGoto_setEnv (s : State) (e : Env) :
    ({ s with env := e } : State).followGoto = { s.followGoto with env := e } := by
  unfold State.followGoto
  dsimp only
  split
  · split <;> rfl
  · rfl

/-- The session base and `DF.LOGGING` under any step: a move of the base goes from Idle to Logging, and every step
from Idle to Logging puts the base at the cursor it started with (10_state.md R38, R39). -/
theorem step_sessionBase {s s' : State} (h : step s = .next s') :
    (s'.sessionBase = s.sessionBase ∧ (s'.df.logging = true → s.df.logging = true)) ∨
      (s.df.logging = false ∧ s'.df.logging = true ∧ s'.sessionBase = s.cursor) := by
  rcases stepKind_of_step h with ⟨ev, e, -, rfl⟩ | ⟨i, e, -, -, -, ex⟩ | ⟨e, -, -, rfl⟩ | ⟨e, -, -, rfl⟩
  · obtain ⟨_, _, _, _, _, _, _, heq, rfl | rfl, -⟩ := applyEvent_frame ev { s with env := e } <;> rw [heq]
    all_goals exact .inl ⟨rfl, id⟩
  · exact (exec_effect i _ _ ex).of_followGoto.base
  · rw [followGoto_frame]
    exact .inl ⟨rfl, id⟩
  · exact .inl ⟨rfl, id⟩

/-- Who may change `DF.LOGGING`, and at what (10_state.md R38). -/
theorem step_logging {s s' : State} (h : step s = .next s') (hne : s'.df.logging ≠ s.df.logging) :
    s.env.drawTurn.1 = .agent ∧
      (s.followGoto.currentRequest = some .scBegin ∨ s.followGoto.currentRequest = some .scEnd ∨
        s.followGoto.currentRequest = some .peDispatch ∨
        s.hold = .window ∧ s.rxEn = false ∧ s.idx ≠ 0 ∧ (s.buf[0] = 0x42#8 ∨ s.buf[0] = 0x45#8)) := by
  rcases stepKind_of_step h with ⟨ev, e, -, rfl⟩ | ⟨i, e, turn, -, act, ex⟩ | ⟨e, -, -, rfl⟩ | ⟨e, -, -, rfl⟩
  · obtain ⟨_, _, _, _, _, _, _, heq, rfl | rfl, -⟩ := applyEvent_frame ev { s with env := e } <;> rw [heq] at hne
    all_goals exact absurd rfl hne
  · refine ⟨congrArg Prod.fst turn, ?_⟩
    rw [followGoto_setEnv] at act ex
    have hlog : s'.df.logging ≠ ({ s.followGoto with env := e } : State).df.logging := by
      rw [followGoto_frame]
      exact hne
    have hcases := (exec_logging i _ _ ex hlog).cases_of_run act
    rw [followGoto_frame] at hcases ⊢
    exact hcases
  · rw [followGoto_frame] at hne
    exact absurd rfl hne
  · exact absurd rfl hne

/-- Settles O50, from the base's law (`step_sessionBase`) and who may change `DF.LOGGING` (`step_logging`). -/
theorem sessionStateFrame : Obligations.SessionStateFrame := by
  intro s s' h
  refine ⟨fun hb => ?_, fun h0 h1 => ?_, step_logging h⟩
  · exact (step_sessionBase h).resolve_left fun ⟨hb', _⟩ => hb hb'
  · rcases step_sessionBase h with ⟨-, hlog⟩ | ⟨-, -, hb⟩
    · simp [hlog h1] at h0
    · exact hb

/-! ### FW_MAIN -/

/-- A program with a goto never ends (10_state.md R23; log 12). -/
theorem not_ended_of_loop {s : State} {k : Nat} (h : s.program.loopTo = some k) : s.ended = false := by
  simp [State.ended, h]

/-- After its last word FW_MAIN goes on at LOOP, where WAIT_TICK stands (42_session_controller.md R219). -/
theorem fwMain_nextAction {s : State} (hp : s.program = .fwMain) (hc : s.cp = 2) (hn : s.hold = .none) :
    s.nextAction = .run .waitTick := by
  have hw : s.fetchWord = some Instr.waitTick.requestWord := by
    rw [State.fetchWord, hp, hc]
    rfl
  have hd : decodeRequest Instr.waitTick.requestWord = .ok .waitTick := by decide
  simp [State.nextAction, hw, hd, hn]

/-- Settles O12: the goto is taken with the next fetch (log 12). -/
theorem firmwareLoops : Obligations.FirmwareLoops := by
  intro s e hp
  refine ⟨not_ended_of_loop (k := 2) (by rw [hp]; rfl), fun hc hn ht hf hr => ?_⟩
  have hgoto : ({ s with env := e } : State).followGoto = { s with env := e, cp := 2 } := by
    simp [State.followGoto, hp, hc, Program.fwMain]
  have hact : ({ s with env := e, cp := 2 } : State).nextAction = .run .waitTick := fwMain_nextAction hp rfl hn
  rw [step_agent ht, agentTurn_live (s := { s with env := e }) hf hr, hgoto, hact]

/-! ### R44 (2) between TIMEOUT and the resumption -/

/-- FW_MAIN's tick cycle at its window's hold, reception enabled, and TIMEOUT about to come. -/
def timeoutAtWindow : State :=
  { State.reset with
    drvActive := true
    pwr := .awake
    rxEn := true
    hold := .window
    cp := 3
    env := { Env.unscripted with turns := [.event .timeout] } }

theorem timeoutAtWindow_inv : timeoutAtWindow.Inv where
  cfg_wf := by decide
  idx_le := by decide
  rx_window := fun _ => rfl
  released_down := fun h => by cases h
  settling := fun h => by cases h
  cs_low := rfl
  cursor_lt := by decide
  base_le := by decide
  wovf_full := fun h => by cases h
  cmd_error := rfl
  otp_len := by decide
  log_wf := rfl
  one_fault := by decide
  hold_fits := .inr (by decide)

/-- Refutes O52: TIMEOUT at the window's hold clears `PE.RX_EN` and leaves `SC.HOLD` at WINDOW (log 13). -/
theorem not_receiveEnabledExactlyAtTheWindowHold : ¬ Obligations.ReceiveEnabledExactlyAtTheWindowHold := by
  intro h
  have hstep : step timeoutAtWindow = .next { timeoutAtWindow with rxEn := false, env := Env.unscripted } := rfl
  have hiff := h _ _ timeoutAtWindow_inv ⟨fun _ => rfl, fun _ => rfl⟩ hstep
  exact absurd (hiff.2 rfl) (by decide)

end Sys2Proof.Machine
end

section
/-! PROOFS. The family 20_memory.md. What every step does to the cursor, chip select and the bus (`step_effect_or_kept`),
which instructions may log and where (`exec_noLog`, `exec_logsOnce`), and the word a read gives after a write. -/

namespace Sys2Proof.Machine

open Sys2Proof.Claims

/-! ### The cursor, chip select and the bus in every step -/

/-- The registers a turn without an instruction leaves alone: the cursor, chip select and the bus trace. -/
structure StoreKept (s t : State) : Prop where
  cursor : t.cursor = s.cursor
  cs : t.cs = s.cs
  busTrace : t.busTrace = s.busTrace

theorem applyEvent_storeKept (ev : Event) (s : State) : StoreKept s (applyEvent ev s) := by
  obtain ⟨_, _, _, _, _, _, _, heq, -, -⟩ := applyEvent_frame ev s
  rw [heq]
  exact ⟨rfl, rfl, rfl⟩

/-- Every step is the effect of an instruction, or does nothing on the memory side. -/
theorem step_effect_or_kept {s s' : State} (h : step s = .next s') : InstrEffect s s' ∨ StoreKept s s' := by
  rcases stepKind_of_step h with ⟨ev, e, -, rfl⟩ | ⟨i, e, -, -, -, ex⟩ | ⟨e, -, -, rfl⟩ | ⟨e, -, -, rfl⟩
  · exact .inr { applyEvent_storeKept ev { s with env := e } with }
  · exact .inl (exec_effect i _ _ ex).of_followGoto
  · rw [followGoto_frame]
    exact .inr ⟨rfl, rfl, rfl⟩
  · exact .inr ⟨rfl, rfl, rfl⟩

/-- At a settling wait a device that is down is the waking one. -/
theorem State.Inv.waking_of_settle {s : State} (hs : s.Inv) (hd : s.pwr = .poweredDown ∨ s.pwr = .waking)
    (hh : s.hold = .settle) : s.pwr = .waking := by
  rcases hs.settling hh with h | h
  · exact h
  · simp [h] at hd

/-- Settles O39: the cursor moves by an instruction only, and then as `InstrEffect.cursor_toNat` says. -/
theorem cursorOnlyAdvances : Obligations.CursorOnlyAdvances := by
  intro s s' hs h
  rcases step_effect_or_kept h with he | hk
  · have hc := he.cursor_toNat hs
    omega
  · simp [hk.cursor]

/-- Settles O43: every instruction ends with chip select low (`exec_effect`), and no other turn moves it. -/
theorem chipSelectIsReleased : Obligations.ChipSelectIsReleased := by
  intro s s' h hcs
  rcases step_effect_or_kept h with he | hk
  · exact he.cs_low hcs
  · exact hk.cs.trans hcs

/-- Settles O44: an instruction is quiet while the device is down; under the invariant that holds at a settling wait
too, because SETTLED has not come yet. -/
theorem noTrafficWhileDown : Obligations.NoTrafficWhileDown := by
  intro s s' hs h hd
  rcases step_effect_or_kept h with he | hk
  · exact he.quiet hd (hs.waking_of_settle hd)
  · rw [hk.busTrace]

/-! ### A read after a write -/

section
variable {s : State} {a : Word} (hd : s.drvActive = true) (hp : s.pwr = .awake) (ha : a.toNat < s.cfg.nvmWords)
include hd hp ha

/-- An Ok write by an awake, unprotected driver (40_store_driver.md R143). -/
theorem writeBody_ok {v : Word} (hprot : ¬ ProtectedBy s s.sr1c s.sr2c) (ho : s.env.drawOutcome.1 = .ok) :
    writeBody a v s = .done .ok { (busWrite a v s).state with srValid := false, pwr := .busy } := by
  have hready : readyForBus s = true := (readyForBus_iff s).2 ⟨hd, .inl hp⟩
  have hin : ¬ outOfStore s.cfg a = true := by simpa [outOfStore_iff] using ha
  have hunprot : ¬ isProtected s.cfg s.sr1c s.sr2c = true := mt (isProtected_iff _ _ _).1 hprot
  have hcode : outcomeCode (busWrite a v s).outcome = .ok := by simp [busWrite, busTxn_eq, ho, outcomeCode]
  simp [writeBody, hready, hin, hunprot, hp, hcode]

/-- The log an Ok SD_WRITE leaves (20_memory.md R66). -/
theorem exec_sdWrite_writeLog {v : Word} (hprot : ¬ ProtectedBy s s.sr1c s.sr2c) (ho : s.env.drawOutcome.1 = .ok) :
    Nexts (exec (.sdWrite a v) s) fun t => t.writeLog = s.writeLog.push a.toNat (.wrote v) := by
  simp only [exec, execSdWrite, writeBody_ok hd hp ha hprot ho, completeBody]
  exact nexts_complete (by simp [busWrite, busTxn_eq, ho, Memory.record])

/-- An Ok SD_READ of a word written once returns its value (40_store_driver.md R144; 20_memory.md R66). -/
theorem exec_sdRead_written_once {v : Word} (ho : s.env.drawOutcome.1 = .ok)
    (hlog : s.writeLog.entries a.toNat = [.wrote v]) :
    exec (.sdRead a) s = .next ((busRead a s).state.finish (.word .ok v)) := by
  have hready : readyForBus s = true := (readyForBus_iff s).2 ⟨hd, .inl hp⟩
  have hin : ¬ outOfStore s.cfg a = true := by simpa [outOfStore_iff] using ha
  have hknown := (Memory.known_eq_some s.writeLog a.toNat v).2 hlog
  have hcode : outcomeCode (busRead a s).outcome = .ok := by simp [busRead, busTxn_eq, ho, outcomeCode]
  have hreply : (busRead a s).reply = v := by simp [busRead, busTxn_eq, ho, answerRead, hknown]
  simp [exec, execSdRead, readBody, hready, hin, hp, hcode, hreply, completeBody, readResult, complete]

end

/-- Settles O47: the write leaves the log of its address at that one entry, from which a later read is known. -/
theorem readAfterWrite : Obligations.ReadAfterWrite := by
  intro s t u a v e e' hd hp ha hprot ho hempty hwrite hlog hcfg hud hup huo
  have ht : t.writeLog = s.writeLog.push a.toNat (.wrote v) :=
    exec_sdWrite_writeLog hd hp ha hprot (congrArg Prod.fst ho) t hwrite
  have hu : u.writeLog.entries a.toNat = [.wrote v] := by
    rw [hlog, ht]
    exact Memory.entries_push_first _ _ _ hempty
  have hau : a.toNat < u.cfg.nvmWords := by
    rw [hcfg, (exec_effect _ s t hwrite).cfg]
    exact ha
  exact ⟨_, exec_sdRead_written_once hud hup hau (congrArg Prod.fst huo) hu, rfl⟩

/-! ### Which instructions may write, and where -/

theorem NoLog.finish {s t : State} (h : NoLog s t) (r : Result) : NoLog s (t.finish r) := ⟨h.cursor, h.writeLog⟩

theorem LogsOnce.finish {s t : State} (h : LogsOnce s t) (r : Result) : LogsOnce s (t.finish r) := ⟨h.cursor, h.other⟩

/-- Releasing the hold before a body is no write. -/
theorem NoLog.of_setHold {s t : State} {x : Hold} (h : NoLog (s.setHold x) t) : NoLog s t := ⟨h.cursor, h.writeLog⟩

theorem LogsOnce.of_setHold {s t : State} {x : Hold} (h : LogsOnce (s.setHold x) t) : LogsOnce s t :=
  ⟨h.cursor, h.other⟩

/-- A request whose body does not log does not, whether it completes or faults. -/
theorem nexts_noLog {α : Type} {s : State} {f : α → Result} {b : Body α} (hb : b.Ends s (NoLog s)) :
    Nexts (completeBody f b) (NoLog s) :=
  nexts_body hb (fun _ _ ht _ => ht.finish _) fun _ ht _ => ht

theorem nexts_logsOnce {α : Type} {s : State} {f : α → Result} {b : Body α} (hb : b.Ends s (LogsOnce s)) :
    Nexts (completeBody f b) (LogsOnce s) :=
  nexts_body hb (fun _ _ ht _ => ht.finish _) fun _ ht _ => ht

theorem execSdInit_noLog (s : State) : Nexts (execSdInit s) (NoLog s) := by
  unfold execSdInit
  split
  · split
    · exact nexts_next (.refl s)
    · have hid : NoLog s (initIdentify s).2 := by
        unfold initIdentify
        dsimp only
        split <;> exact ⟨rfl, rfl⟩
      exact nexts_complete (hid.finish _)
  · split
    · exact nexts_complete ⟨rfl, rfl⟩
    · exact nexts_next ⟨rfl, rfl⟩

theorem execSdTerm_noLog (s : State) : Nexts (execSdTerm s) (NoLog s) := by
  unfold execSdTerm
  split
  · exact nexts_complete ⟨rfl, rfl⟩
  · split
    · exact nexts_complete ⟨rfl, rfl⟩
    · split <;> exact nexts_complete ⟨rfl, rfl⟩

theorem execSdWrSr1_noLog (v : Byte) (s : State) : Nexts (execSdWrSr1 v s) (NoLog s) := by
  unfold execSdWrSr1
  split
  · split <;> exact nexts_complete ⟨rfl, rfl⟩
  · exact nexts_complete ⟨rfl, rfl⟩

theorem udpdExitBody_noLog (s : State) : NoLog s (udpdExitBody s).2 := by
  unfold udpdExitBody
  split
  · split <;> exact ⟨rfl, rfl⟩
  · exact ⟨rfl, rfl⟩

theorem execSdLoadOtp_noLog (s : State) : Nexts (execSdLoadOtp s) (NoLog s) := by
  unfold execSdLoadOtp
  split
  · split
    · exact nexts_complete ⟨rfl, rfl⟩
    · dsimp only
      split <;> exact nexts_complete ⟨rfl, rfl⟩
  · exact nexts_complete ⟨rfl, rfl⟩

theorem execSdPrintId_noLog (s : State) : Nexts (execSdPrintId s) (NoLog s) := by
  obtain ⟨-, hn, -⟩ := readIdBody_moves s
  unfold execSdPrintId
  split <;> next heq =>
    rw [heq] at hn
    exact nexts_complete ⟨hn.cursor, hn.writeLog⟩

theorem appendBody_noLog (c : Byte) (s : State) : NoLog s (appendBody c s) := by
  rw [appendBody_frame]
  exact ⟨rfl, rfl⟩

theorem dispatchBody_noLog (s : State) : (dispatchBody s).Ends s (NoLog s) :=
  (dispatchBody_ends s).imp fun _ ⟨_, hn, _⟩ => hn

theorem execPeExchange_noLog (s : State) : Nexts (execPeExchange s) (NoLog s) := by
  unfold execPeExchange
  split
  · split
    · exact nexts_next (.refl s)
    · exact fun t ht => (nexts_noLog (dispatchBody_noLog _) t ht).of_setHold
  · exact nexts_next ⟨rfl, rfl⟩

theorem execWaitTick_noLog (s : State) : Nexts (execWaitTick s) (NoLog s) := by
  unfold execWaitTick
  split
  · exact nexts_complete ⟨rfl, rfl⟩
  · exact nexts_next ⟨rfl, rfl⟩

theorem execWaitSettle_noLog (s : State) : Nexts (execWaitSettle s) (NoLog s) := by
  unfold execWaitSettle
  split
  · exact nexts_next ⟨rfl, rfl⟩
  · exact nexts_complete ⟨rfl, rfl⟩

/-- An instruction that is no SD_WRITE and contains no SD_LOG writes no word and moves no cursor. -/
theorem exec_noLog {i : Instr} (s : State) (hw : ∀ a v, i ≠ .sdWrite a v) (hl : mayLog i = false) :
    Nexts (exec i s) (NoLog s) := by
  cases i <;> simp only [mayLog, Bool.true_eq_false] at hl <;> simp only [exec]
  case sdWrite a v => exact absurd rfl (hw a v)
  case sdInit => exact execSdInit_noLog s
  case sdTerm => exact execSdTerm_noLog s
  case sdRead a => exact nexts_noLog ((readBody_ends a s).imp fun _ => And.right)
  case sdRefresh => exact nexts_complete ((refreshBody_moves s).2.1.finish _)
  case sdGetSr1 => exact nexts_complete ⟨rfl, rfl⟩
  case sdGetSr2 => exact nexts_complete ⟨rfl, rfl⟩
  case sdWrSr1 v => exact execSdWrSr1_noLog v s
  case sdUdpdEnter => exact nexts_complete ((udpdEnterBody_moves s).2.1.finish _)
  case sdUdpdExitBegin => exact nexts_complete ((udpdExitBody_noLog s).finish _)
  case sdLoadOtp => exact execSdLoadOtp_noLog s
  case sdReadId => exact nexts_complete ((readIdBody_moves s).2.1.finish _)
  case sdPrintId => exact execSdPrintId_noLog s
  case peClear => exact nexts_complete ⟨rfl, rfl⟩
  case peAppend c => exact nexts_complete ((appendBody_noLog c s).finish _)
  case peExchange => exact execPeExchange_noLog s
  case peDispatch => exact nexts_noLog (dispatchBody_noLog s)
  case peDump => exact nexts_noLog ((dumpBody_ends s).imp fun _ => And.right)
  case scBegin => exact nexts_complete ((beginBody_effect _ s).2.1.finish _)
  case scEnd => exact nexts_complete ((endBody_effect _ s).2.1.finish _)
  case scQuiesce => exact nexts_complete ((quiesceBody_moves s).2.1.finish _)
  case waitTick => exact execWaitTick_noLog s
  case waitSettle => exact execWaitSettle_noLog s

theorem tickToWindow_logsOnce (s : State) : Nexts (tickToWindow s) (LogsOnce s) := by
  unfold tickToWindow
  split
  · exact nexts_next ⟨.inl rfl, fun _ _ => rfl⟩
  · have hb := sampleBody_ends s
    split <;> next heq =>
      rw [heq] at hb
      obtain ⟨⟨-, hl⟩, -⟩ := hb
      exact nexts_next ⟨hl.cursor, hl.other⟩

/-- What a tick cycle does after a dispatch, which logs nothing, is at most its one sample. -/
theorem tickAfterDispatch_logsOnce {s : State} {b : Body Unit} (hb : b.Ends s fun t => t.cfg = s.cfg ∧ NoLog s t) :
    Nexts (tickAfterDispatch b) (LogsOnce s) := by
  cases b with
  | faulted t => exact nexts_next hb.1.2.once
  | done _ t =>
    obtain ⟨⟨hcfg, hn⟩, -⟩ := hb
    have key : ∀ u, LogsOnce t u → LogsOnce s u := fun _ => hn.then_once hcfg
    exact nexts_body (tickAfterWindow_ends t) (fun u _ hu _ => (key u hu.2).finish _) fun u hu _ => key u hu.2

theorem tickBegin_logsOnce (s : State) : Nexts (tickBegin s) (LogsOnce s) := by
  have key : ∀ u : State, NoLog s u → u.cfg = s.cfg →
      Nexts (if u.pwr = .waking then .next (u.setHold .settle) else tickToWindow u) (LogsOnce s) := by
    intro u hn hcfg
    split
    · exact nexts_next (NoLog.once ⟨hn.cursor, hn.writeLog⟩)
    · exact fun t ht => hn.then_once hcfg (tickToWindow_logsOnce u t ht)
  unfold tickBegin
  dsimp only
  split
  · exact key _ (udpdExitBody_noLog s) (udpdExitBody_effect s).1.cfg
  · exact key s (.refl s) rfl

theorem execScTickCycle_logsOnce (s : State) : Nexts (execScTickCycle s) (LogsOnce s) := by
  unfold execScTickCycle
  split
  · split
    · exact nexts_next (NoLog.refl s).once
    · exact fun t ht => (tickToWindow_logsOnce _ t ht).of_setHold
  · split
    · split
      · exact nexts_next (NoLog.refl s).once
      · have hb := (dispatchBody_ends (s.setHold .none)).imp fun _ ⟨he, hn, _⟩ => And.intro he.cfg hn
        exact fun t ht => (tickAfterDispatch_logsOnce hb t ht).of_setHold
    · exact tickBegin_logsOnce s

/-- A host command logs at most in the tick cycle that goes on after it. -/
theorem hostCommand_logsOnce {b : State → Body Unit} (s : State)
    (hb : ∀ u : State, (b u).Ends u fun t => t.cfg = u.cfg ∧ NoLog u t) : Nexts (hostCommand b s) (LogsOnce s) := by
  have hc : (clearAfter (b (s.setHold .none))).Ends (s.setHold .none) fun t =>
      t.cfg = (s.setHold .none).cfg ∧ NoLog (s.setHold .none) t := by
    have h := hb (s.setHold .none)
    cases hbody : b (s.setHold .none) <;> rw [hbody] at h <;> obtain ⟨⟨hcfg, hn⟩, hf⟩ := h
    · exact ⟨⟨hcfg, hn.cursor, hn.writeLog⟩, hf⟩
    · exact ⟨⟨hcfg, hn⟩, hf⟩
  unfold hostCommand
  dsimp only
  split
  · exact fun t ht => (tickAfterDispatch_logsOnce hc t ht).of_setHold
  · exact fun t ht => (nexts_logsOnce (hc.imp fun _ h => h.2.once) t ht).of_setHold

/-- An instruction that contains SD_LOG writes at most at the cursor. -/
theorem exec_logsOnce_of_mayLog {i : Instr} (s : State) (hl : mayLog i = true) : Nexts (exec i s) (LogsOnce s) := by
  cases i <;> simp only [mayLog, Bool.false_eq_true] at hl <;> simp only [exec]
  case sdLog v => exact nexts_logsOnce ((logBody_ends v s).imp fun _ ⟨_, h, _⟩ => h)
  case scSample => exact nexts_logsOnce ((sampleBody_ends s).imp fun _ => And.right)
  case scTickCycle => exact execScTickCycle_logsOnce s
  case hostD rest => exact hostCommand_logsOnce s fun u => (dumpBody_ends u).imp fun _ ⟨hm, hn⟩ => ⟨hm.cfg, hn⟩
  case hostB ts f =>
    refine hostCommand_logsOnce s fun u => ?_
    obtain ⟨he, hn, hf⟩ := beginBody_effect ts u
    exact ⟨⟨he.cfg, hn⟩, hf⟩
  case hostE ts f =>
    refine hostCommand_logsOnce s fun u => ?_
    obtain ⟨he, hn, hf⟩ := endBody_effect ts u
    exact ⟨⟨he.cfg, hn⟩, hf⟩

/-- Every instruction but SD_WRITE writes at most at the cursor (20_memory.md R76). -/
theorem exec_logsOnce {i : Instr} (s : State) (hw : ∀ a v, i ≠ .sdWrite a v) : Nexts (exec i s) (LogsOnce s) := by
  cases hl : mayLog i
  · exact fun t ht => (exec_noLog s hw hl t ht).once
  · exact exec_logsOnce_of_mayLog s hl

/-- SD_WRITE writes at most at its address (20_memory.md R66). -/
theorem exec_sdWrite_other (a v : Word) (s : State) :
    Nexts (exec (.sdWrite a v) s) fun t => ∀ b, b ≠ a.toNat → t.writeLog.entries b = s.writeLog.entries b :=
  nexts_body (writeBody_ends a v s) (fun _ _ ⟨_, _, hother⟩ _ => hother) fun _ ⟨_, _, hother⟩ _ => hother

/-- Settles O48, its three clauses from `exec_sdWrite_other`, `exec_logsOnce` and `exec_noLog`. -/
theorem memoryFrame : Obligations.MemoryFrame := by
  intro s t i h
  refine ⟨?_, fun hw => (exec_logsOnce s hw t h).other, fun hw hl => (exec_noLog s hw hl t h).writeLog⟩
  rintro a v rfl
  exact exec_sdWrite_other a v s t h

end Sys2Proof.Machine
end

section
/-! PROOFS. The family 30_encoding.md. What a row (match, mask) asks of a request word's fields (`matchesRow_iff`), that
the decoder asks the same of them (`decodeFields_isSome_iff`), and the refusal of a word that matches no row. -/

namespace Sys2Proof.Machine

open Sys2Proof.Claims

/-! ### A row of the table, field by field -/

/-- A request word is determined by its three fields (30_encoding.md R101). -/
theorem reqWord_eq_iff {w x : ReqWord} : w = x ↔ reqOp w = reqOp x ∧ reqA w = reqA x ∧ reqV w = reqV x := by
  constructor
  · rintro rfl
    exact ⟨rfl, rfl, rfl⟩
  · rintro ⟨hop, ha, hv⟩
    rw [← reqWord_fields w, hop, ha, hv, reqWord_fields]

theorem reqOp_and (w m : ReqWord) : reqOp (w &&& m) = reqOp w &&& reqOp m := BitVec.extractLsb'_and

theorem reqA_and (w m : ReqWord) : reqA (w &&& m) = reqA w &&& reqA m := BitVec.extractLsb'_and

theorem reqV_and (w m : ReqWord) : reqV (w &&& m) = reqV w &&& reqV m := BitVec.extractLsb'_and

/-- The bits of A and V that the masks `ma` and `mv` reserve are 0. -/
def ReservedZero (ma mv a v : Word) : Prop := a &&& ma = 0 ∧ v &&& mv = 0

/-- Every row fixes all of OP and wants only zeros in A and V (R102, R103). -/
theorem requestRows_shape : ∀ r ∈ requestRows, reqOp r.2 = BitVec.allOnes 8 ∧ reqA r.1 = 0 ∧ reqV r.1 = 0 := by
  simp [requestRows, reqOp, reqA, reqV]

/-- What a row asks of a word: its OP, and 0 in the bits of A and V that its mask reserves (R103, R104). -/
theorem matchesRow_iff {r : ReqWord × ReqWord} (hr : r ∈ requestRows) (w : ReqWord) :
    w &&& r.2 = r.1 ↔ reqOp w = reqOp r.1 ∧ ReservedZero (reqA r.2) (reqV r.2) (reqA w) (reqV w) := by
  obtain ⟨hop, ha, hv⟩ := requestRows_shape r hr
  rw [reqWord_eq_iff, reqOp_and, reqA_and, reqV_and, hop, ha, hv, BitVec.and_allOnes, ReservedZero]

/-! ### The row of an OP -/

/-- The first row with this OP; there is no second (`requestRows_op_nodup`). -/
def rowOf (op : Byte) : Option (ReqWord × ReqWord) := requestRows.find? fun r => reqOp r.1 == op

theorem requestRows_op_nodup : (requestRows.map fun r => reqOp r.1).Nodup := by decide

/-- What some row with this OP asks of A and V is what the OP's row asks. -/
theorem exists_row_iff {op : Byte} {r : ReqWord × ReqWord} (hr : rowOf op = some r) (a v : Word) :
    (∃ q ∈ requestRows, op = reqOp q.1 ∧ ReservedZero (reqA q.2) (reqV q.2) a v) ↔
      ReservedZero (reqA r.2) (reqV r.2) a v := by
  have hmem : r ∈ requestRows := List.mem_of_find?_eq_some hr
  have hop : reqOp r.1 = op := by simpa using List.find?_some hr
  constructor
  · rintro ⟨q, hq, hqop, hzero⟩
    rwa [List.inj_on_of_nodup_map requestRows_op_nodup hmem hq (hop.trans hqop)]
  · exact fun hzero => ⟨r, hmem, hop.symm, hzero⟩

/-! ### The decoder, format by format -/

/-- The bits reserved around an 8-bit operand are `V[15:8]` (R102). -/
theorem highByte_eq_zero_iff (v : Word) : highByte v = 0 ↔ v &&& 0xFF00#16 = 0 := by
  constructor
  · intro h
    have hmask : 0xFF00#16 = 0xFF#8 ++ 0#8 := rfl
    rw [← byteField_lowByte v h, byteField, hmask, BitVec.and_append, BitVec.zero_and, BitVec.and_zero]
    rfl
  · intro h
    calc highByte v
        = highByte v &&& highByte 0xFF00#16 := BitVec.and_allOnes.symm
      _ = highByte (v &&& 0xFF00#16) := BitVec.extractLsb'_and.symm
      _ = 0 := by rw [h]; rfl

theorem isSome_ite {p : Prop} [Decidable p] (i : Instr) (err : DecodeError) :
    (if p then Except.ok i else .error err).toOption.isSome = true ↔ p := by
  split <;> simp_all [Except.toOption]

/-- A field reserved whole (R102). -/
theorem and_allReserved (v : Word) : v &&& 0xFFFF#16 = v := BitVec.and_allOnes

/-- The formats of R103, by the bits they reserve. -/
theorem decodeR_isSome (i : Instr) (a v : Word) :
    (decodeR i a v).toOption.isSome = true ↔ ReservedZero 0xFFFF#16 0xFFFF#16 a v := by
  rw [decodeR, isSome_ite, ReservedZero, and_allReserved, and_allReserved]

theorem decodeRA_isSome (f : Word → Instr) (a v : Word) :
    (decodeRA f a v).toOption.isSome = true ↔ ReservedZero 0#16 0xFFFF#16 a v := by
  simp [decodeRA, isSome_ite, ReservedZero, and_allReserved]

theorem decodeRV16_isSome (f : Word → Instr) (a v : Word) :
    (decodeRV16 f a v).toOption.isSome = true ↔ ReservedZero 0xFFFF#16 0#16 a v := by
  simp [decodeRV16, isSome_ite, ReservedZero, and_allReserved]

theorem decodeRV8_isSome (f : Byte → Instr) (a v : Word) :
    (decodeRV8 f a v).toOption.isSome = true ↔ ReservedZero 0xFFFF#16 0xFF00#16 a v := by
  rw [decodeRV8, isSome_ite, ReservedZero, and_allReserved, highByte_eq_zero_iff]

/-- SD_WRITE reserves nothing. -/
theorem decodeSdWrite_isSome (a v : Word) :
    (Except.ok (ε := DecodeError) (Instr.sdWrite a v)).toOption.isSome = true ↔ ReservedZero 0#16 0#16 a v :=
  iff_of_true rfl ⟨BitVec.and_zero, BitVec.and_zero⟩

/-- Decoding an assigned OP, where its format reserves what its row reserves. -/
theorem isSome_iff_exists_row {op : Byte} {a v : Word} {r : ReqWord × ReqWord} {d : Except DecodeError Instr}
    (hr : rowOf op = some r) (hd : d.toOption.isSome = true ↔ ReservedZero (reqA r.2) (reqV r.2) a v) :
    d.toOption.isSome = true ↔
      ∃ q ∈ requestRows, op = reqOp q.1 ∧ ReservedZero (reqA q.2) (reqV q.2) a v :=
  hd.trans (exists_row_iff hr a v).symm

/-- The decoder accepts the fields that some row asks for: at an assigned OP, those of its format; at an unassigned one
none (R103, R104). -/
theorem decodeFields_isSome_iff (op : Byte) (a v : Word) :
    (decodeFields op a v).toOption.isSome = true ↔
      ∃ r ∈ requestRows, op = reqOp r.1 ∧ ReservedZero (reqA r.2) (reqV r.2) a v := by
  unfold decodeFields
  split
  case h_3 => exact isSome_iff_exists_row rfl (decodeSdWrite_isSome a v)
  case h_4 => exact isSome_iff_exists_row rfl (decodeRA_isSome _ a v)
  case h_8 | h_16 => exact isSome_iff_exists_row rfl (decodeRV8_isSome _ a v)
  case h_12 => exact isSome_iff_exists_row rfl (decodeRV16_isSome _ a v)
  case h_27 => simp_all [requestRows, reqOp, Except.toOption]
  all_goals exact isSome_iff_exists_row rfl (decodeR_isSome _ a v)

/-- Settles O3: a row (`matchesRow_iff`) and the decoder (`decodeFields_isSome_iff`) ask the same of a word's fields. -/
theorem requestWordsAreTheTableRows : Obligations.RequestWordsAreTheTableRows := by
  intro w
  rw [decodeRequest, decodeFields_isSome_iff]
  exact exists_congr fun r => and_congr_right fun hr => (matchesRow_iff hr w).symm

/-! ### A word that spells no request -/

/-- A word that matches no row does not decode (30_encoding.md R104). -/
theorem decodeRequest_error_of_no_row {w : ReqWord} (h : ∀ r ∈ requestRows, w &&& r.2 ≠ r.1) :
    ∃ err, decodeRequest w = .error err := by
  rcases hd : decodeRequest w with err | i
  · exact ⟨err, rfl⟩
  · obtain ⟨r, hr, hmatch⟩ := (requestWordsAreTheTableRows w).1 (by rw [hd]; rfl)
    exact absurd hmatch (h r hr)

/-- The agent refuses a word that does not decode (60_exceptions.md R244). -/
theorem nextAction_refuse {s : State} {w : ReqWord} {err : DecodeError} (hw : s.fetchWord = some w)
    (hd : decodeRequest w = .error err) : s.nextAction = .refuse := by
  simp [State.nextAction, hw, hd]

/-- The refusal leaves the mark and nothing else: no goto is taken, since a word stands at `CP`. -/
theorem agentTurn_refuse {s : State} {w : ReqWord} {err : DecodeError} (hf : s.faults = []) (hr : s.refused = false)
    (hw : s.fetchWord = some w) (hd : decodeRequest w = .error err) : agentTurn s = .next s.refuse := by
  rw [agentTurn_live hf hr, followGoto_of_fetch hw, nextAction_refuse hw hd]

/-- Once a word was refused the agent's turn is refused (log 7). -/
theorem agentTurn_refused {s : State} (hf : s.faults = []) (hr : s.refused = true) :
    agentTurn s = .refused .badRequest := by
  simp [agentTurn, hf, hr]

/-- A run in which a word was refused has not ended (10_state.md R23). -/
theorem not_ended_of_refused {s : State} (hr : s.refused = true) : s.ended = false := by
  simp [State.ended, hr]

/-- Settles O8: the turn at a bad word is `agentTurn_refuse`, every one after it `agentTurn_refused`. -/
theorem badRequestIsRefused : Obligations.BadRequestIsRefused := by
  intro s e w hturn hf _ hw hbad
  obtain ⟨err, hd⟩ := decodeRequest_error_of_no_row hbad
  rw [step_agent hturn]
  exact ⟨fun hr => agentTurn_refuse hf hr hw hd, fun hr => ⟨agentTurn_refused hf hr, not_ended_of_refused hr⟩⟩

end Sys2Proof.Machine
end

section
/-! PROOFS. The family 40_store_driver.md. A bus transaction as the record the statements write it as
(`busTxn_of_draws`), the bodies case by case from it, and the moves of `SD.PWR`. -/

namespace Sys2Proof.Machine

open Sys2Proof.Claims

/-! ### Readiness and completion -/

theorem readyForBus_of_ready {s : State} (h : ReadyAt s) : readyForBus s = true := (readyForBus_iff s).2 h

theorem readyForBus_of_not_ready {s : State} (h : ¬ ReadyAt s) : readyForBus s = false := by
  simpa using mt (readyForBus_iff s).1 h

/-- A request whose outcome is `complete` returns its result (10_state.md R22). -/
theorem returns_of_complete {i : Instr} {s t : State} {r : Result} (h : exec i s = complete r t) :
    Returns i s r t := h

/-- A refused request leaves `SD.VIOLATION` set and nothing else (10_state.md R31; 40_store_driver.md R140). -/
theorem returns_of_refused {i : Instr} {s : State} {r : Result} (h : exec i s = complete r s.flagViolation) :
    Returns i s r { s with violation := true } := h

theorem outcomeCode_eq (o : BusOutcome) : outcomeCode o = okOrBusError o := by cases o <;> rfl

/-! ### The transactions, their draws named -/

/-- A transaction from its draws (20_memory.md R64): outcome, reply, and the state that holds both in its trace. -/
theorem busTxn_of_draws {ρ : Type} {cmd : BusCmd} {answer : BusOutcome → Env → ρ × Env} {entry : ρ → Reply}
    {s : State} {o : BusOutcome} {e e' : Env} {r : ρ} (ho : s.env.drawOutcome = (o, e)) (hr : answer o e = (r, e')) :
    busTxn cmd answer entry s =
      ⟨o, r, { afterTxn s cmd o (entry r) e' with writeLog := s.writeLog.record o cmd }⟩ := by
  simp [busTxn_eq, ho, hr]

/-- What a write leaves in the log of its address (20_memory.md R66). -/
abbrev writeEntry (o : BusOutcome) (v : Word) : LogEntry := if o = .ok then .wrote v else .failed

theorem Memory.record_write (m : Memory) (o : BusOutcome) (a v : Word) :
    m.record o (.write a v) = m.push a.toNat (writeEntry o v) := by
  cases o <;> rfl

/-- The device's answer where its contract knows the word (20_memory.md R66). -/
theorem answerRead_known {m : Memory} {a v : Word} (e : Env) (h : m.entries a.toNat = [.wrote v]) :
    answerRead m a .ok e = (v, e) := by
  simp [answerRead, (Memory.known_eq_some m a.toNat v).2 h]

/-- The device's answer where its contract leaves the word a draw (20_memory.md R66). -/
theorem answerRead_drawn {m : Memory} {a : Word} {o : BusOutcome} {e : Env}
    (h : o = .err ∨ ∀ v, m.entries a.toNat ≠ [.wrote v]) : answerRead m a o e = e.drawWord := by
  cases o with
  | err => rfl
  | ok =>
    have hn := (Memory.known_eq_none m a.toNat).2 (h.resolve_left (by simp))
    simp [answerRead, hn]

section
variable {s : State} {o : BusOutcome} {e : Env} (ho : s.env.drawOutcome = (o, e))
include ho

theorem busWrite_eq (a v : Word) :
    busWrite a v s =
      ⟨o, (), { afterTxn s (.write a v) o .none e with writeLog := s.writeLog.push a.toNat (writeEntry o v) }⟩ := by
  rw [← Memory.record_write]
  exact busTxn_of_draws ho rfl

theorem busWrsr1_eq (v : Byte) : busWrsr1 v s = ⟨o, (), afterTxn s (.wrsr1 v) o .none e⟩ := busTxn_of_draws ho rfl

theorem busUdpd_eq : busUdpd s = ⟨o, (), afterTxn s .udpd o .none e⟩ := busTxn_of_draws ho rfl

theorem busDpd_eq : busDpd s = ⟨o, (), afterTxn s .dpd o .none e⟩ := busTxn_of_draws ho rfl

theorem busRead_eq {a w : Word} {e' : Env} (hw : answerRead s.writeLog a o e = (w, e')) :
    busRead a s = ⟨o, w, afterTxn s (.read a) o (.word w) e'⟩ := busTxn_of_draws ho hw

theorem busOtpRead_eq {bs : List Byte} {e' : Env}
    (hb : answerConstant s.cfg.otpContent s.cfg.otpLen o e = (bs, e')) :
    busOtpRead s = ⟨o, bs, afterTxn s .otpRead o (.bytes bs) e'⟩ := busTxn_of_draws ho hb

theorem busReadId_eq {bs : List Byte} {e' : Env}
    (hb : answerConstant s.cfg.deviceId s.cfg.idLen o e = (bs, e')) :
    busReadId s = ⟨o, bs, afterTxn s .readId o (.bytes bs) e'⟩ := busTxn_of_draws ho hb

end

/-! ### The status read -/

/-- The two draws of one status read, one after the other. -/
theorem drawPair_split {e e' : Env} {o : BusOutcome} {b : Byte} (h : drawPair e = ((o, b), e')) :
    ∃ d, e.drawOutcome = (o, d) ∧ d.drawStatus = (b, e') := by
  simp only [drawPair, Prod.mk.injEq] at h
  obtain ⟨⟨ho, hb⟩, he⟩ := h
  exact ⟨e.drawOutcome.2, Prod.ext ho rfl, Prod.ext hb he⟩

section
variable {s : State} {o1 o2 : BusOutcome} {b1 b2 : Byte} {e1 e2 : Env}
  (h1 : drawPair s.env = ((o1, b1), e1)) (h2 : drawPair e1 = ((o2, b2), e2))
include h1 h2

/-- Both status reads Ok: the cache is filled (40_store_driver.md R145). -/
theorem readStatus_ok (ho1 : o1 = .ok) (ho2 : o2 = .ok) :
    readStatus s = (some (b1, b2), withStatus (afterStatus s o1 b1 o2 b2 e2) b1 b2) := by
  obtain ⟨d1, hd1, hs1⟩ := drawPair_split h1
  obtain ⟨d2, hd2, hs2⟩ := drawPair_split h2
  rw [readStatus_eq hd1 hs1 hd2 hs2, if_pos ⟨ho1, ho2⟩]

/-- A status read that fails invalidates the cache and nothing else (40_store_driver.md R145). -/
theorem readStatus_err (herr : o1 = .err ∨ o2 = .err) :
    readStatus s = (none, { afterStatus s o1 b1 o2 b2 e2 with srValid := false }) := by
  obtain ⟨d1, hd1, hs1⟩ := drawPair_split h1
  obtain ⟨d2, hd2, hs2⟩ := drawPair_split h2
  rw [readStatus_eq hd1 hs1 hd2 hs2, if_neg (by rintro ⟨rfl, rfl⟩; simp at herr)]

end

/-! ### SD_LOG -/

/-- SD_LOG declines exactly on a busy or a protected device (40_store_driver.md R153). -/
theorem declineFlags_eq_zero_iff (p : Params) (b1 b2 : Byte) :
    declineFlags p b1 b2 = 0 ↔ isBusy p b1 = false ∧ isProtected p b1 b2 = false := by
  unfold declineFlags
  cases isBusy p b1 <;> cases isProtected p b1 b2 <;> decide

theorem declineFlags_ne_zero_iff (s : State) (b1 b2 : Byte) :
    declineFlags s.cfg b1 b2 ≠ 0 ↔ BusyBit s b1 ∨ ProtectedBy s b1 b2 := by
  rw [ne_eq, declineFlags_eq_zero_iff, BusyBit, ProtectedBy, ← isProtected_iff, ← isBusy]
  cases isBusy s.cfg b1 <;> simp

theorem logBody_not_ready {s : State} (v : Word) (hr : ¬ ReadyAt s) :
    logBody v s = .done flagNotReady s.flagViolation := by
  simp [logBody, readyForBus_of_not_ready hr]

section
variable {s s1 : State} {v : Word} {b1 b2 : Byte} (hr : ReadyAt s)
include hr

/-- A failed status read ends SD_LOG before any write (40_store_driver.md R153). -/
theorem logBody_status_err (hst : readStatus s = (none, s1)) : logBody v s = .done flagBusError s1 := by
  simp [logBody, readyForBus_of_ready hr, hst]

theorem logBody_declined (hst : readStatus s = (some (b1, b2), s1)) (hdecl : declineFlags s.cfg b1 b2 ≠ 0) :
    logBody v s = .done (declineFlags s.cfg b1 b2) s1 := by
  simp only [logBody, readyForBus_of_ready hr, hst, if_true]
  exact if_pos hdecl

/-- SD_LOG on a device that accepts the write: the word at the cursor, the cache invalid, the device busy; then the
cursor advances or the store is exhausted (40_store_driver.md R152, R153). -/
theorem logBody_writes {o : BusOutcome} {e : Env} (hst : readStatus s = (some (b1, b2), s1))
    (hdecl : declineFlags s.cfg b1 b2 = 0) (ho : s1.env.drawOutcome = (o, e)) :
    logBody v s =
      if s1.cursor.toNat + 1 = s1.cfg.nvmWords then
        .faulted (State.raise { afterTxn s1 (.write s1.cursor v) o .none e with
          srValid := false
          pwr := .busy
          writeLog := s1.writeLog.push s1.cursor.toNat (writeEntry o v) } (.storeExhausted s1.cursor))
      else
        .done (if o = .ok then 0 else flagBusError) { afterTxn s1 (.write s1.cursor v) o .none e with
          srValid := false
          pwr := .busy
          writeLog := s1.writeLog.push s1.cursor.toNat (writeEntry o v)
          cursor := s1.cursor + 1 } := by
  simp only [logBody, readyForBus_of_ready hr, hst, hdecl, busWrite_eq ho, advanceCursor]
  by_cases hend : s1.cursor.toNat + 1 = s1.cfg.nvmWords
  · simp [hend]
  · cases o <;> simp [hend]

end

/-- Settles O21: the status read decides between the error, the decline (`declineFlags_ne_zero_iff`) and the write
at the cursor (`logBody_writes`), whose two ends are the advance and the fault. -/
theorem sdLogResult : Obligations.SdLogResult := by
  intro s v
  refine ⟨fun hr => ?_, fun o1 b1 e1 o2 b2 e2 hr h1 h2 => ⟨fun herr => ?_, fun ho1 ho2 hdecl => ?_,
    fun o e3 ho1 ho2 hbusy hprot ho => ?_⟩⟩
  · exact returns_of_refused (by simp only [exec, execSdLog, logBody_not_ready v hr, completeBody, flagNotReady])
  · apply returns_of_complete
    simp [exec, execSdLog, logBody_status_err hr (readStatus_err h1 h2 herr), completeBody, flagBusError]
  · apply returns_of_complete
    have hne := (declineFlags_ne_zero_iff s b1 b2).2 hdecl
    simp only [exec, execSdLog, logBody_declined hr (readStatus_ok h1 h2 ho1 ho2) hne, completeBody]
    rw [declineFlags_eq]
  · have hz : declineFlags s.cfg b1 b2 = 0 :=
      not_ne_iff.1 (mt (declineFlags_ne_zero_iff s b1 b2).1 (not_or.2 ⟨hbusy, hprot⟩))
    have hlog := logBody_writes (v := v) hr (readStatus_ok h1 h2 ho1 ho2) hz ho
    refine ⟨fun hroom => ?_, fun hend => ?_⟩
    · rw [if_neg hroom] at hlog
      exact returns_of_complete (by simp only [exec, execSdLog, hlog, completeBody, flagBusError])
    · rw [if_pos hend] at hlog
      simp only [exec, execSdLog, hlog, completeBody, State.raise]

/-! ### The requests, case by case -/

theorem outOfStore_of_lt {p : Params} {a : Word} (h : a.toNat < p.nvmWords) : outOfStore p a = false := by
  simpa [outOfStore] using h

theorem isProtected_of_not_protected {s : State} {b1 b2 : Byte} (h : ¬ ProtectedBy s b1 b2) :
    isProtected s.cfg b1 b2 = false := by
  simpa using mt (isProtected_iff s.cfg b1 b2).1 h

section
variable {s : State}

/-! SD_READ's body, which PE_DUMP shares (40_store_driver.md R144). -/

theorem readBody_not_ready (a : Word) (hr : ¬ ReadyAt s) :
    readBody a s = .done (.notReady, none) s.flagViolation := by
  simp [readBody, readyForBus_of_not_ready hr]

theorem readBody_out_of_store {a : Word} (hr : ReadyAt s) (ha : s.cfg.nvmWords ≤ a.toNat) :
    readBody a s = .faulted (s.raise (.addrRange a)) := by
  simp [readBody, readyForBus_of_ready hr, (outOfStore_iff _ _).2 ha]

theorem readBody_busy {a : Word} (hr : ReadyAt s) (ha : a.toNat < s.cfg.nvmWords) (hb : s.pwr = .busy) :
    readBody a s = .done (.busBusy, none) s := by
  simp [readBody, readyForBus_of_ready hr, outOfStore_of_lt ha, hb]

theorem readBody_awake {a w : Word} {o : BusOutcome} {e e' : Env} (hd : s.drvActive = true) (hw : s.pwr = .awake)
    (ha : a.toNat < s.cfg.nvmWords) (ho : s.env.drawOutcome = (o, e))
    (hans : answerRead s.writeLog a o e = (w, e')) :
    readBody a s = .done (outcomeCode o, some w) (afterTxn s (.read a) o (.word w) e') := by
  simp [readBody, readyForBus_of_ready ⟨hd, .inl hw⟩, outOfStore_of_lt ha, hw, busRead_eq ho hans]

/-! SD_REFRESH's body, which SC_QUIESCE's poll shares (40_store_driver.md R145). -/

theorem refreshBody_not_ready (hr : ¬ ReadyAt s) : refreshBody s = (.notReady, s.flagViolation) := by
  simp [refreshBody, readyForBus_of_not_ready hr]

theorem refreshBody_of_status_none {s1 : State} (hr : ReadyAt s) (hst : readStatus s = (none, s1)) :
    refreshBody s = (.busError, s1) := by
  simp [refreshBody, readyForBus_of_ready hr, hst]

theorem refreshBody_of_status_some {s1 : State} {bs : Byte × Byte} (hr : ReadyAt s)
    (hst : readStatus s = (some bs, s1)) : refreshBody s = (.ok, s1) := by
  simp [refreshBody, readyForBus_of_ready hr, hst]

/-! The bodies of SD_UDPD_ENTER and SD_UDPD_EXIT_BEGIN, which SC_TICK_CYCLE shares (40_store_driver.md R149, R150). -/

theorem udpdEnterBody_not_ready (hr : ¬ ReadyAt s) : udpdEnterBody s = (.notReady, s.flagViolation) := by
  simp [udpdEnterBody, readyForBus_of_not_ready hr]

theorem udpdEnterBody_busy (hd : s.drvActive = true) (hb : s.pwr = .busy) : udpdEnterBody s = (.busBusy, s) := by
  simp [udpdEnterBody, readyForBus_of_ready ⟨hd, .inr hb⟩, hb]

theorem udpdEnterBody_awake {o : BusOutcome} {e : Env} (hd : s.drvActive = true) (hw : s.pwr = .awake)
    (ho : s.env.drawOutcome = (o, e)) :
    udpdEnterBody s =
      (okOrBusError o, { afterTxn s .udpd o .none e with pwr := .poweredDown, srValid := false }) := by
  simp [udpdEnterBody, readyForBus_of_ready ⟨hd, .inl hw⟩, hw, busUdpd_eq ho, outcomeCode_eq]

theorem udpdExitBody_released (hd : s.drvActive = false) : udpdExitBody s = (.notReady, s.flagViolation) := by
  simp [udpdExitBody, hd]

theorem udpdExitBody_powered_down (hd : s.drvActive = true) (hp : s.pwr = .poweredDown) :
    udpdExitBody s = (.ok, { wakeTrigger s with pwr := .waking }) := by
  simp [udpdExitBody, hd, hp]

theorem udpdExitBody_up (hd : s.drvActive = true) (hp : s.pwr ≠ .poweredDown) : udpdExitBody s = (.ok, s) := by
  simp [udpdExitBody, hd, hp]

/-! SD_READ_ID's body, which SD_PRINT_ID shares (40_store_driver.md R155, R156). -/

theorem readIdBody_not_ready (hr : ¬ ReadyAt s) : readIdBody s = ((.notReady, none), s.flagViolation) := by
  simp [readIdBody, readyForBus_of_not_ready hr]

theorem readIdBody_busy (hd : s.drvActive = true) (hb : s.pwr = .busy) : readIdBody s = ((.busBusy, none), s) := by
  simp [readIdBody, readyForBus_of_ready ⟨hd, .inr hb⟩, hb]

theorem readIdBody_awake {o : BusOutcome} {e e' : Env} {bs : List Byte} (hd : s.drvActive = true)
    (hw : s.pwr = .awake) (ho : s.env.drawOutcome = (o, e))
    (hb : answerConstant s.cfg.deviceId s.cfg.idLen o e = (bs, e')) :
    readIdBody s = ((outcomeCode o, some bs), afterTxn s .readId o (.bytes bs) e') := by
  simp [readIdBody, readyForBus_of_ready ⟨hd, .inl hw⟩, hw, busReadId_eq ho hb]

end

/-- The second half of SD_INIT from its READ_ID's draws (40_store_driver.md R141). -/
theorem initIdentify_eq {s : State} {o : BusOutcome} {e e' : Env} {bs : List Byte} (ho : s.env.drawOutcome = (o, e))
    (hb : answerConstant s.cfg.deviceId s.cfg.idLen o e = (bs, e')) :
    initIdentify s =
      if o = .ok ∧ bs = s.cfg.expectedId then
        (.ok, { afterTxn s .readId o (.bytes bs) e' with hold := .none, drvActive := true })
      else
        (.deviceNotFound, { afterTxn s .readId o (.bytes bs) e' with
          hold := .none, drvActive := true, df := { s.df with memError := true } }) := by
  have hid := busReadId_eq (s := { s with hold := .none, drvActive := true }) ho hb
  simp only [initIdentify, hid]
  rfl

/-- Settles O13: SD_INIT by its hold, and the resumption by the outcome of READ_ID (`initIdentify_eq`). -/
theorem sdInitResult : Obligations.SdInitResult := by
  intro s
  refine ⟨fun hn hd => ?_, fun hn hd => ?_, fun hs hw => ?_, fun e hs hw ho => ?_, fun e bs e' hs hw ho hb => ?_⟩
  · exact returns_of_refused (by simp [exec, execSdInit, hn, hd])
  · simp [exec, execSdInit, hn, hd, wakeTrigger]
  · simp [exec, execSdInit, hs, hw]
  · apply returns_of_complete
    simp only [exec, execSdInit, hs, hw, if_true, if_false, initIdentify_eq ho rfl]
    by_cases hid : s.cfg.deviceId = s.cfg.expectedId <;> simp [hid]
  · apply returns_of_complete
    simp [exec, execSdInit, hs, hw, initIdentify_eq ho hb]

/-- Settles O14: SD_TERM in each power state; only Awake issues DPD. -/
theorem sdTermResult : Obligations.SdTermResult := by
  intro s
  refine ⟨fun h => ?_, fun hd hp => ?_, fun o e hd hp ho => ?_, fun hd hp => ?_⟩
  · exact returns_of_refused (if_pos h)
  · exact returns_of_complete (by simp [exec, execSdTerm, hd, hp])
  · exact returns_of_complete (by simp [exec, execSdTerm, hd, hp, busDpd_eq ho, outcomeCode_eq])
  · exact returns_of_complete (by simp [exec, execSdTerm, hd, hp])

/-- Settles O15: SD_WRITE's checks in their order, then the one WRITE (`busWrite_eq`). -/
theorem sdWriteResult : Obligations.SdWriteResult := by
  intro s a v
  refine ⟨fun hr => ?_, fun hr ha => ?_, fun hr ha hp => ?_, fun hr ha hp hb => ?_, fun o e hd ha hp hw ho => ?_⟩
  · exact returns_of_refused (by simp [exec, execSdWrite, writeBody, readyForBus_of_not_ready hr, completeBody])
  · simp [exec, execSdWrite, writeBody, readyForBus_of_ready hr, (outOfStore_iff _ _).2 ha, completeBody, State.raise]
  · exact returns_of_complete (by
      simp [exec, execSdWrite, writeBody, readyForBus_of_ready hr, outOfStore_of_lt ha, (isProtected_iff _ _ _).2 hp,
        completeBody])
  · exact returns_of_complete (by
      simp [exec, execSdWrite, writeBody, readyForBus_of_ready hr, outOfStore_of_lt ha,
        isProtected_of_not_protected hp, hb, completeBody])
  · exact returns_of_complete (by
      simp [exec, execSdWrite, writeBody, readyForBus_of_ready ⟨hd, .inl hw⟩, outOfStore_of_lt ha,
        isProtected_of_not_protected hp, hw, busWrite_eq ho, outcomeCode_eq, completeBody])

/-- Settles O16: SD_READ's checks in their order, then the one READ (`readBody_awake`), whose word
the contract knows (`answerRead_known`) or leaves a draw (`answerRead_drawn`). -/
theorem sdReadResult : Obligations.SdReadResult := by
  intro s a
  refine ⟨fun hr => ?_, fun hr ha => ?_, fun hr ha hb => ?_, fun e v hd ha hw ho hlog => ?_,
    fun o e w e' hd ha hw ho hlog hdraw => ?_⟩
  · exact returns_of_refused (by simp only [exec, execSdRead, readBody_not_ready a hr, completeBody, readResult])
  · simp only [exec, execSdRead, readBody_out_of_store hr ha, completeBody, State.raise]
  · exact returns_of_complete (by simp only [exec, execSdRead, readBody_busy hr ha hb, completeBody, readResult])
  · have hread := readBody_awake hd hw ha ho (answerRead_known e hlog)
    exact returns_of_complete (by simp only [exec, execSdRead, hread, completeBody, readResult, outcomeCode])
  · have hread := readBody_awake hd hw ha ho ((answerRead_drawn hlog).trans hdraw)
    exact returns_of_complete (by simp only [exec, execSdRead, hread, completeBody, readResult, outcomeCode_eq])

/-- Settles O17: SD_REFRESH is the status read (`readStatus_err`, `readStatus_ok`). -/
theorem sdRefreshResult : Obligations.SdRefreshResult := by
  intro s
  refine ⟨fun hr => ?_, fun o1 b1 e1 o2 b2 e2 hr h1 h2 => ⟨fun herr => ?_, fun ho1 ho2 => ?_⟩⟩
  · exact returns_of_refused (by simp only [exec, execSdRefresh, refreshBody_not_ready hr])
  · have h := refreshBody_of_status_none hr (readStatus_err h1 h2 herr)
    exact returns_of_complete (by simp only [exec, execSdRefresh, h])
  · have h := refreshBody_of_status_some hr (readStatus_ok h1 h2 ho1 ho2)
    exact returns_of_complete (by simp only [exec, execSdRefresh, h])

/-- Settles O18: both requests complete at once with the cached byte. -/
theorem cacheReadsReturnTheCache : Obligations.CacheReadsReturnTheCache := fun s =>
  ⟨returns_of_complete (show exec .sdGetSr1 s = complete (.byte .ok s.sr1c) s from rfl),
    returns_of_complete (show exec .sdGetSr2 s = complete (.byte .ok s.sr2c) s from rfl)⟩

/-- Settles O19: SD_WRSR1's checks, then the one WRSR1 (`busWrsr1_eq`). -/
theorem sdWrSr1Result : Obligations.SdWrSr1Result := by
  intro s v
  refine ⟨fun hr => ?_, fun hd hb => ?_, fun o e hd hw ho => ?_⟩
  · exact returns_of_refused (by simp [exec, execSdWrSr1, readyForBus_of_not_ready hr])
  · exact returns_of_complete (by simp [exec, execSdWrSr1, readyForBus_of_ready ⟨hd, .inr hb⟩, hb])
  · exact returns_of_complete (by
      simp [exec, execSdWrSr1, readyForBus_of_ready ⟨hd, .inl hw⟩, hw, busWrsr1_eq ho, outcomeCode_eq])

/-- Settles O20: the two bodies, each by the power state and by who owns the bus. -/
theorem powerDownAndWakeResults : Obligations.PowerDownAndWakeResults := by
  intro s
  refine ⟨fun hr => ?_, fun hd hb => ?_, fun o e hd hw ho => ?_, fun hd => ?_, fun hd hp => ?_, fun hd hp => ?_⟩
  · exact returns_of_refused (by simp only [exec, execSdUdpdEnter, udpdEnterBody_not_ready hr])
  · exact returns_of_complete (by simp only [exec, execSdUdpdEnter, udpdEnterBody_busy hd hb])
  · exact returns_of_complete (by simp only [exec, execSdUdpdEnter, udpdEnterBody_awake hd hw ho])
  · exact returns_of_refused (by simp only [exec, execSdUdpdExitBegin, udpdExitBody_released hd])
  · exact returns_of_complete (by
      simp only [exec, execSdUdpdExitBegin, udpdExitBody_powered_down hd hp, wakeTrigger])
  · exact returns_of_complete (by simp only [exec, execSdUdpdExitBegin, udpdExitBody_up hd hp])

/-- Settles O22: SD_LOAD_OTP's checks, then the one OTP_READ (`busOtpRead_eq`), whose Ok reply is the region. -/
theorem sdLoadOtpResult : Obligations.SdLoadOtpResult := by
  intro s
  refine ⟨fun hr => ?_, fun hd hb => ?_, fun e hd hw ho => ?_, fun e bs e' hd hw ho hbs => ?_⟩
  · exact returns_of_refused (by simp [exec, execSdLoadOtp, readyForBus_of_not_ready hr])
  · exact returns_of_complete (by simp [exec, execSdLoadOtp, readyForBus_of_ready ⟨hd, .inr hb⟩, hb])
  · exact returns_of_complete (by
      simp [exec, execSdLoadOtp, readyForBus_of_ready ⟨hd, .inl hw⟩, hw, busOtpRead_eq ho rfl])
  · exact returns_of_complete (by
      simp [exec, execSdLoadOtp, readyForBus_of_ready ⟨hd, .inl hw⟩, hw, busOtpRead_eq ho hbs])

/-- Settles O23: both requests run one body; SD_PRINT_ID sends where its code is OK. -/
theorem identificationResults : Obligations.IdentificationResults := by
  intro s
  refine ⟨fun hr => ?_, fun hd hb => ?_, fun e hd hw ho => ?_, fun e bs e' hd hw ho hbs => ?_⟩
  · have h := readIdBody_not_ready hr
    exact ⟨returns_of_refused (by simp [exec, execSdReadId, h, readIdResult]),
      returns_of_refused (by simp [exec, execSdPrintId, h])⟩
  · have h := readIdBody_busy hd hb
    exact ⟨returns_of_complete (by simp [exec, execSdReadId, h, readIdResult]),
      returns_of_complete (by simp [exec, execSdPrintId, h])⟩
  · have h := readIdBody_awake hd hw ho rfl
    exact ⟨returns_of_complete (by simp [exec, execSdReadId, h, readIdResult, outcomeCode]),
      returns_of_complete (by simp [exec, execSdPrintId, h, outcomeCode, State.tx])⟩
  · have h := readIdBody_awake hd hw ho hbs
    exact ⟨returns_of_complete (by simp [exec, execSdReadId, h, readIdResult, outcomeCode]),
      returns_of_complete (by simp [exec, execSdPrintId, h, outcomeCode])⟩

/-! ### The power state in every step -/

/-- Settles O45: of the four kinds of step only SETTLED moves `Waking` (`applyEvent_frame`, `InstrEffect.waking`). -/
theorem wakingIsLeftOnlyBySettled : Obligations.WakingIsLeftOnlyBySettled := by
  intro s s' h hw hne
  rcases stepKind_of_step h with ⟨ev, e, hturn, rfl⟩ | ⟨i, e, -, -, -, ex⟩ | ⟨e, -, -, rfl⟩ | ⟨e, -, -, rfl⟩
  · obtain ⟨_, _, _, _, _, _, p, heq, -, hkept | ⟨-, hawake, hev⟩⟩ := applyEvent_frame ev { s with env := e }
    · exact absurd (by rw [heq]; exact hkept.trans hw) hne
    · exact ⟨by rw [hturn, hev], by rw [heq]; exact hawake⟩
  · exact absurd ((exec_effect i _ _ ex).of_followGoto.waking hw) hne
  · exact absurd (by rw [followGoto_frame]; exact hw) hne
  · exact absurd hw hne

/-! ### The moves of `SD.PWR` -/

/-- From `p`, `SD.PWR` stays, or the status read moves it between Awake and Busy (40_store_driver.md R145). -/
def FollowsBusyBit (p q : Power) : Prop := q = p ∨ ((p = .awake ∨ p = .busy) ∧ (q = .awake ∨ q = .busy))

/-- From `p`, `SD.PWR` stays, or it goes from Awake to `r`. -/
def FromAwakeTo (r p q : Power) : Prop := q = p ∨ (p = .awake ∧ q = r)

theorem FollowsBusyBit.cases {p q : Power} (h : FollowsBusyBit p q) (hne : q ≠ p) :
    (p = .awake ∧ q = .busy) ∨ (p = .busy ∧ q = .awake) := by
  rcases h.resolve_left hne with ⟨hp | hp, hq | hq⟩
  · exact absurd (hq.trans hp.symm) hne
  · exact .inl ⟨hp, hq⟩
  · exact .inr ⟨hp, hq⟩
  · exact absurd (hq.trans hp.symm) hne

/-- A ready driver's device is Awake where it is not Busy. -/
theorem pwr_awake_of_ready {s : State} (hr : readyForBus s = true) (hb : s.pwr ≠ .busy) : s.pwr = .awake :=
  ((readyForBus_iff s).1 hr).2.resolve_right hb

theorem readStatus_pwr (s : State) :
    (readStatus s).2.pwr = s.pwr ∨ (readStatus s).2.pwr = .awake ∨ (readStatus s).2.pwr = .busy := by
  unfold readStatus
  dsimp only
  split
  · right
    dsimp only
    split
    · exact .inr rfl
    · exact .inl rfl
  · exact .inl rfl

theorem readStatus_followsBusyBit {s : State} (hr : readyForBus s = true) : FollowsBusyBit s.pwr (readStatus s).2.pwr :=
  (readStatus_pwr s).imp_right fun h => ⟨((readyForBus_iff s).1 hr).2, h⟩

theorem refreshBody_followsBusyBit (s : State) : FollowsBusyBit s.pwr (refreshBody s).2.pwr := by
  unfold refreshBody
  split
  · next hr =>
    have h := readStatus_followsBusyBit hr
    split <;> next heq => rw [heq] at h; exact h
  · exact .inl rfl

theorem execSdRefresh_followsBusyBit (s : State) : Nexts (execSdRefresh s) fun t => FollowsBusyBit s.pwr t.pwr :=
  nexts_complete (refreshBody_followsBusyBit s)

/-- The state a body ends in, whether it returns or has raised a fault. -/
def Body.state {α : Type} : Body α → State
  | .done _ s => s
  | .faulted s => s

/-- The result and the advance of `CP` leave `SD.PWR` where the body put it. -/
theorem nexts_completeBody_pwr {α : Type} {f : α → Result} {b : Body α} {R : Power → Prop} (h : R b.state.pwr) :
    Nexts (completeBody f b) fun t => R t.pwr := by
  cases b with
  | done r t => exact nexts_complete h
  | faulted t => exact nexts_next h

theorem advanceCursor_pwr (s : State) : (advanceCursor s).state.pwr = s.pwr := by
  unfold advanceCursor
  split <;> rfl

theorem logBody_followsBusyBit (v : Word) (s : State) : FollowsBusyBit s.pwr (logBody v s).state.pwr := by
  unfold logBody
  split
  · next hr =>
    have h := readStatus_followsBusyBit hr
    split
    · next heq => rw [heq] at h; exact h
    · next heq =>
      rw [heq] at h
      split
      · exact h
      · refine .inr ⟨((readyForBus_iff s).1 hr).2, .inr ?_⟩
        dsimp only
        split <;> next hadv => exact (congrArg (fun b => b.state.pwr) hadv).symm.trans (advanceCursor_pwr _)
  · exact .inl rfl

theorem execSdLog_followsBusyBit (v : Word) (s : State) :
    Nexts (execSdLog v s) fun t => FollowsBusyBit s.pwr t.pwr :=
  nexts_completeBody_pwr (R := FollowsBusyBit s.pwr) (logBody_followsBusyBit v s)

theorem writeBody_fromAwake (a v : Word) (s : State) : FromAwakeTo .busy s.pwr (writeBody a v s).state.pwr := by
  unfold writeBody
  split
  · next hr =>
    split
    · exact .inl rfl
    · split
      · exact .inl rfl
      · split
        · exact .inl rfl
        · next hb => exact .inr ⟨pwr_awake_of_ready hr hb, rfl⟩
  · exact .inl rfl

theorem execSdWrite_fromAwake (a v : Word) (s : State) :
    Nexts (execSdWrite a v s) fun t => FromAwakeTo .busy s.pwr t.pwr :=
  nexts_completeBody_pwr (R := FromAwakeTo .busy s.pwr) (writeBody_fromAwake a v s)

theorem readBody_pwr (a : Word) (s : State) : (readBody a s).state.pwr = s.pwr := by
  unfold readBody
  split
  · split
    · rfl
    · split <;> rfl
  · rfl

theorem execSdRead_pwr (a : Word) (s : State) : Nexts (execSdRead a s) fun t => t.pwr = s.pwr :=
  nexts_completeBody_pwr (R := (· = s.pwr)) (readBody_pwr a s)

theorem readIdBody_pwr (s : State) : (readIdBody s).2.pwr = s.pwr := by
  unfold readIdBody
  split
  · split <;> rfl
  · rfl

theorem execSdReadId_pwr (s : State) : Nexts (execSdReadId s) fun t => t.pwr = s.pwr :=
  nexts_complete (readIdBody_pwr s)

theorem udpdEnterBody_fromAwake (s : State) : FromAwakeTo .poweredDown s.pwr (udpdEnterBody s).2.pwr := by
  unfold udpdEnterBody
  split
  · next hr =>
    split
    · exact .inl rfl
    · next hb => exact .inr ⟨pwr_awake_of_ready hr hb, rfl⟩
  · exact .inl rfl

theorem execSdUdpdEnter_fromAwake (s : State) :
    Nexts (execSdUdpdEnter s) fun t => FromAwakeTo .poweredDown s.pwr t.pwr :=
  nexts_complete (udpdEnterBody_fromAwake s)

theorem udpdExitBody_wakes (s : State) :
    (udpdExitBody s).2.pwr = s.pwr ∨
      (s.drvActive = true ∧ s.pwr = .poweredDown ∧ (udpdExitBody s).2.pwr = .waking) := by
  unfold udpdExitBody
  split
  · next hd =>
    split
    · next hp => exact .inr ⟨hd, hp, rfl⟩
    · exact .inl rfl
  · exact .inl rfl

theorem execSdUdpdExitBegin_wakes (s : State) : Nexts (execSdUdpdExitBegin s) fun t =>
    t.pwr = s.pwr ∨ (s.drvActive = true ∧ s.pwr = .poweredDown ∧ t.pwr = .waking) :=
  nexts_complete (udpdExitBody_wakes s)

theorem execSdTerm_fromAwake (s : State) : Nexts (execSdTerm s) fun t => FromAwakeTo .poweredDown s.pwr t.pwr := by
  unfold execSdTerm
  split
  · exact nexts_complete (.inl rfl)
  · next hw =>
    split
    · exact nexts_complete (.inl rfl)
    · next hb =>
      split
      · next ha => exact nexts_complete (.inr ⟨ha, rfl⟩)
      · next ha =>
        have hp : s.pwr = .poweredDown := by cases h : s.pwr <;> simp_all
        exact nexts_complete (.inl hp.symm)

theorem execSdWrSr1_fromAwake (v : Byte) (s : State) :
    Nexts (execSdWrSr1 v s) fun t => FromAwakeTo .busy s.pwr t.pwr := by
  unfold execSdWrSr1
  split
  · next hr =>
    split
    · exact nexts_complete (.inl rfl)
    · next hb => exact nexts_complete (.inr ⟨pwr_awake_of_ready hr hb, rfl⟩)
  · exact nexts_complete (.inl rfl)

theorem execSdLoadOtp_pwr (s : State) : Nexts (execSdLoadOtp s) fun t => t.pwr = s.pwr := by
  unfold execSdLoadOtp
  split
  · split
    · exact nexts_complete rfl
    · dsimp only
      split <;> exact nexts_complete rfl
  · exact nexts_complete rfl

theorem execSdPrintId_pwr (s : State) : Nexts (execSdPrintId s) fun t => t.pwr = s.pwr := by
  have h := readIdBody_pwr s
  unfold execSdPrintId
  split <;> next heq =>
    rw [heq] at h
    exact nexts_complete h

theorem initIdentify_pwr (s : State) : (initIdentify s).2.pwr = s.pwr := by
  unfold initIdentify
  dsimp only
  split <;> rfl

theorem execSdInit_wakes (s : State) : Nexts (execSdInit s) fun t =>
    t.pwr = s.pwr ∨ (s.hold ≠ .settle ∧ s.drvActive = false ∧ t.pwr = .waking) := by
  unfold execSdInit
  split
  · split
    · exact nexts_next (.inl rfl)
    · exact nexts_complete (.inl (initIdentify_pwr s))
  · next hold =>
    split
    · exact nexts_complete (.inl rfl)
    · next hd => exact nexts_next (.inr ⟨hold, by simpa using hd, rfl⟩)

/-- Settles O46: what each request does to `SD.PWR`; that SD_INIT wakes a powered-down device is the invariant's
(10_state.md R44 (3)). -/
theorem powerTransitionsOfDriverRequests : Obligations.PowerTransitionsOfDriverRequests := by
  intro s t i hs hc hi hx hne
  clear hc
  cases i <;> simp only [isSdRequest, Bool.false_eq_true] at hi
  case sdInit =>
    obtain ⟨hold, hd, hw⟩ := (execSdInit_wakes s t hx).resolve_left hne
    have hdown := (hs.released_down hd).resolve_right fun h => hold h.1
    exact .inl ⟨hdown, hw, .inl ⟨rfl, hd⟩⟩
  case sdTerm =>
    obtain ⟨ha, hp⟩ := (execSdTerm_fromAwake s t hx).resolve_left hne
    exact .inr (.inr (.inr ⟨ha, hp, .inr rfl⟩))
  case sdWrite a v =>
    obtain ⟨ha, hp⟩ := (execSdWrite_fromAwake a v s t hx).resolve_left hne
    exact .inr (.inl ⟨ha, hp, .inl ⟨a, v, rfl⟩⟩)
  case sdRead a => exact absurd (execSdRead_pwr a s t hx) hne
  case sdRefresh =>
    rcases (execSdRefresh_followsBusyBit s t hx).cases hne with ⟨ha, hb⟩ | ⟨hb, ha⟩
    · exact .inr (.inl ⟨ha, hb, .inr (.inr (.inr rfl))⟩)
    · exact .inr (.inr (.inl ⟨hb, ha, .inr rfl⟩))
  case sdGetSr1 => exact absurd (nexts_complete (P := fun t => t.pwr = s.pwr) rfl t hx) hne
  case sdGetSr2 => exact absurd (nexts_complete (P := fun t => t.pwr = s.pwr) rfl t hx) hne
  case sdWrSr1 v =>
    obtain ⟨ha, hp⟩ := (execSdWrSr1_fromAwake v s t hx).resolve_left hne
    exact .inr (.inl ⟨ha, hp, .inr (.inl ⟨v, rfl⟩)⟩)
  case sdUdpdEnter =>
    obtain ⟨ha, hp⟩ := (execSdUdpdEnter_fromAwake s t hx).resolve_left hne
    exact .inr (.inr (.inr ⟨ha, hp, .inl rfl⟩))
  case sdUdpdExitBegin =>
    obtain ⟨hd, hdown, hw⟩ := (execSdUdpdExitBegin_wakes s t hx).resolve_left hne
    exact .inl ⟨hdown, hw, .inr ⟨rfl, hd⟩⟩
  case sdLoadOtp => exact absurd (execSdLoadOtp_pwr s t hx) hne
  case sdLog v =>
    rcases (execSdLog_followsBusyBit v s t hx).cases hne with ⟨ha, hb⟩ | ⟨hb, ha⟩
    · exact .inr (.inl ⟨ha, hb, .inr (.inr (.inl ⟨v, rfl⟩))⟩)
    · exact .inr (.inr (.inl ⟨hb, ha, .inl ⟨v, rfl⟩⟩))
  case sdReadId => exact absurd (execSdReadId_pwr s t hx) hne
  case sdPrintId => exact absurd (execSdPrintId_pwr s t hx) hne

end Sys2Proof.Machine
end

section
/-! PROOFS. The family 41_protocol_engine.md. The command buffer under appends (`Received`), the dump as the words it
reads (`afterReads`), the switch of dispatch case by case, and the window's three ends: the dispatch, the request that
contains it, and the host command it holds. -/

namespace Sys2Proof.Machine

open Sys2Proof.Claims

/-! ### The command buffer -/

section
variable {s : State} (c : Byte)

theorem appendBody_stores (h : s.idx.toNat < 16) :
    appendBody c s = { s with buf := s.buf.set s.idx.toNat c h, idx := s.idx + 1 } := by
  simp [appendBody, h]

theorem appendBody_overflows (h : 16 ≤ s.idx.toNat) :
    appendBody c s = { s with wovf := true, df := { s.df with cmdOverflow := true } } := by
  simp [appendBody, Nat.not_lt.2 h, DeviceFlags.setCmdOverflow]

theorem eventRx_enabled (h : s.rxEn = true) : eventRx c s = appendBody c s := by simp [eventRx, h]

theorem eventRx_disabled (h : s.rxEn = false) : eventRx c s = s := by simp [eventRx, h]

end

/-- Settles O24: an append either stores or overflows (`appendBody_stores`, `appendBody_overflows`). -/
theorem bufferRequestResults : Obligations.BufferRequestResults := by
  intro s c
  refine ⟨returns_of_complete rfl, fun h => ?_, fun h => ?_⟩
  · exact returns_of_complete (by simp only [exec, execPeAppend, appendBody_stores c h])
  · exact returns_of_complete (by simp only [exec, execPeAppend, appendBody_overflows c h])

/-- Settles O10: a step on an event's turn is the event (`step_event`), and each event is its rule. -/
theorem eventsDoWhatTheirRulesSay : Obligations.EventsDoWhatTheirRulesSay := by
  intro s e
  let u : State := { s with env := e }
  refine ⟨fun c turn => ⟨fun hrx => ?_, fun hrx h => ?_, fun hrx h => ?_⟩, fun turn => ?_, fun turn hw => ?_,
    fun turn hw => ?_⟩ <;> refine (step_event turn).trans (congrArg Host.Outcome.next ?_)
  · exact eventRx_disabled c hrx
  · exact (eventRx_enabled (s := u) c hrx).trans (appendBody_stores (s := u) c h)
  · exact (eventRx_enabled (s := u) c hrx).trans (appendBody_overflows (s := u) c h)
  · rfl
  · exact if_pos hw
  · exact if_pos hw

/-- `t` has received the bytes `l` into the buffer that `s` had when it was cleared (41_protocol_engine.md R181,
R182): the first 16 are stored, the cells after them are the old ones, the window's overflow says there were more. -/
structure Received (s : State) (l : List Byte) (t : State) : Prop where
  rxEn : t.rxEn = true
  idx : t.idx.toNat = min l.length 16
  wovf : t.wovf = true ↔ 16 < l.length
  cells : t.buf.toList = l.take 16 ++ s.buf.toList.drop l.length

theorem Received.cleared (s : State) : Received s [] { s with idx := 0, wovf := false, rxEn := true } :=
  ⟨rfl, rfl, by simp, rfl⟩

/-- Storing a byte in the first of the old cells. -/
theorem set_append_drop (l b : List Byte) (c : Byte) (h : l.length < b.length) :
    (l ++ b.drop l.length).set l.length c = (l ++ [c]) ++ b.drop (l.length + 1) := by
  rw [List.set_append_right _ _ le_rfl, Nat.sub_self, List.drop_eq_getElem_cons h, List.set_cons_zero]
  simp

section
variable {s t : State} {l : List Byte} (h : Received s l t) (c : Byte)
include h

theorem Received.store (hl : l.length < 16) : Received s (l ++ [c]) (appendBody c t) := by
  obtain ⟨hrx, hidx, hwovf, hcells⟩ := h
  have hroom : t.idx.toNat = l.length := by omega
  rw [appendBody_stores c (hroom ▸ hl)]
  refine ⟨hrx, ?_, ?_, ?_⟩
  · have hnext : (t.idx + 1).toNat = l.length + 1 := by bv_omega
    simp only [hnext, List.length_append, List.length_singleton]
    omega
  · simp only [hwovf, List.length_append, List.length_singleton]
    omega
  · have hset := set_append_drop l s.buf.toList c (by simpa using hl)
    rw [List.take_of_length_le hl.le] at hcells
    rw [List.take_of_length_le (by simpa using hl)]
    simpa only [Vector.toList_set, hcells, hroom, List.length_append, List.length_singleton] using hset

theorem Received.overflow (hl : 16 ≤ l.length) : Received s (l ++ [c]) (appendBody c t) := by
  obtain ⟨hrx, hidx, hwovf, hcells⟩ := h
  have hold : ∀ n, 16 ≤ n → s.buf.toList.drop n = [] := fun n hn => List.drop_eq_nil_of_le (by simpa using hn)
  rw [appendBody_overflows c (by omega)]
  refine ⟨hrx, ?_, ?_, ?_⟩
  · simp only [hidx, List.length_append, List.length_singleton]
    omega
  · simp only [List.length_append, List.length_singleton, true_iff]
    omega
  · simp only [hcells, List.take_append_of_le_length hl, List.length_append, List.length_singleton]
    rw [hold _ hl, hold _ (by omega)]

theorem Received.rx : Received s (l ++ [c]) (eventRx c t) := by
  rw [eventRx_enabled c h.rxEn]
  rcases Nat.lt_or_ge l.length 16 with hl | hl
  · exact h.store c hl
  · exact h.overflow c hl

end

theorem Received.foldl {s : State} (cs : List Byte) {t : State} {l : List Byte} (h : Received s l t) :
    Received s (l ++ cs) (cs.foldl (fun u c => eventRx c u) t) := by
  induction cs generalizing t l with
  | nil => simpa using h
  | cons c cs ih => simpa using ih (h.rx c)

/-- Settles O51: every received byte keeps `Received`. -/
theorem appendsFillThenOverflow : Obligations.AppendsFillThenOverflow := by
  intro s cs
  obtain ⟨-, hidx, hwovf, hcells⟩ := (Received.cleared s).foldl cs
  rw [List.nil_append] at hidx hwovf hcells
  have hlen : (cs.take 16).length = min cs.length 16 := by rw [List.length_take, Nat.min_comm]
  refine ⟨hidx, hwovf, ?_, ?_⟩ <;> rw [hcells]
  · exact List.take_left' hlen
  · rw [List.drop_left' hlen]
    rcases Nat.le_total cs.length 16 with h | h
    · rw [Nat.min_eq_left h]
    · rw [Nat.min_eq_right h, List.drop_eq_nil_of_le (by simpa using h), List.drop_eq_nil_of_le (by simp)]

/-! ### The dump -/

/-- The state after the words `rs` were read from address `a` on and sent (41_protocol_engine.md R186). -/
def afterReads (a : Nat) (rs : List (BusOutcome × Word)) (s : State) (e : Env) : State :=
  { s with
    txTrace := s.txTrace ++ rs.map fun r => .word r.2
    busTrace := s.busTrace ++ rs.mapIdx fun k r => .txn (.read (BitVec.ofNat 16 (a + k))) r.1 (.word r.2)
    df := { s.df with memError := s.df.memError || rs.any fun r => decide (r.1 = .err) }
    cs := false
    env := e }

/-- The replies `rs` from address `a` on are the words the device contract knows, where it knows one
(20_memory.md R66). -/
def RepliesKnown (m : Memory) (a : Nat) (rs : List (BusOutcome × Word)) : Prop :=
  ∀ (k : Nat) (h : k < rs.length) (v : Word), rs[k].1 = .ok → m.entries (a + k) = [.wrote v] → rs[k].2 = v

theorem afterReads_nil (a : Nat) {s : State} (hcs : s.cs = false) : afterReads a [] s s.env = s := by
  cases s
  cases hcs
  simp [afterReads]

theorem afterReads_cons (a : Nat) (r : BusOutcome × Word) (rs : List (BusOutcome × Word)) (s : State) (e e' : Env) :
    afterReads (a + 1) rs (afterReads a [r] s e) e' = afterReads a (r :: rs) s e' := by
  simp [afterReads, Nat.add_right_comm, Nat.add_assoc, Bool.or_assoc]

theorem RepliesKnown.cons {m : Memory} {a : Nat} {o : BusOutcome} {w : Word} {rs : List (BusOutcome × Word)}
    (hr : ∀ v, o = .ok → m.entries a = [.wrote v] → w = v) (hrs : RepliesKnown m (a + 1) rs) :
    RepliesKnown m a ((o, w) :: rs) := by
  intro k hk v hok hv
  cases k with
  | zero => exact hr v hok hv
  | succ k => exact hrs k (by simpa using hk) v hok (by rwa [Nat.add_right_comm])

/-- One address of a dump on an awake device: one READ, its word sent, the error bit on a failed read. -/
theorem dumpWords_succ {n a : Nat} {s : State} (hd : s.drvActive = true) (hw : s.pwr = .awake)
    (ha : a < s.cfg.nvmWords) (ha' : a < 65536) :
    ∃ o w e, (∀ v, o = .ok → s.writeLog.entries a = [.wrote v] → w = v) ∧
      dumpWords (n + 1) a s = dumpWords n (a + 1) (afterReads a [(o, w)] s e) := by
  have hnat : (BitVec.ofNat 16 a).toNat = a := Nat.mod_eq_of_lt ha'
  rcases ho : s.env.drawOutcome with ⟨o, e⟩
  rcases hr : answerRead s.writeLog (BitVec.ofNat 16 a) o e with ⟨w, e'⟩
  refine ⟨o, w, e', fun v hok hv => ?_, ?_⟩
  · subst hok
    rw [answerRead_known e (hnat.symm ▸ hv)] at hr
    exact (congrArg Prod.fst hr).symm
  · rw [dumpWords, readBody_awake hd hw (hnat.symm ▸ ha) ho hr]
    cases o <;> simp [dumpItem, outcomeCode, afterReads, afterTxn, State.memError, State.tx, DeviceFlags.setMemError]

/-- The dump of `n` words of the store from an awake device. -/
theorem dumpWords_awake (n : Nat) {a : Nat} {s : State} (hd : s.drvActive = true) (hw : s.pwr = .awake)
    (hcs : s.cs = false) (ha : ∀ k < n, a + k < s.cfg.nvmWords ∧ a + k < 65536) :
    ∃ rs e, rs.length = n ∧ RepliesKnown s.writeLog a rs ∧ dumpWords n a s = .done () (afterReads a rs s e) := by
  induction n generalizing a s with
  | zero => exact ⟨[], s.env, rfl, fun _ h => absurd h (by simp), by rw [afterReads_nil a hcs, dumpWords]⟩
  | succ n ih =>
    obtain ⟨ha0, ha0'⟩ : a < s.cfg.nvmWords ∧ a < 65536 := ha 0 n.succ_pos
    obtain ⟨o, w, e, hr, hstep⟩ := dumpWords_succ (n := n) hd hw ha0 ha0'
    obtain ⟨rs, e', hlen, hrs, hrest⟩ := ih (a := a + 1) (s := afterReads a [(o, w)] s e) hd hw rfl fun k hk =>
      Nat.add_right_comm a k 1 ▸ ha (k + 1) (Nat.succ_lt_succ hk)
    exact ⟨(o, w) :: rs, e', congrArg (· + 1) hlen, hrs.cons hr, by rw [hstep, hrest, afterReads_cons]⟩

/-- What the session's words leave when they are read and sent is what a dump leaves. -/
theorem dumpSends_afterReads {s : State} {rs : List (BusOutcome × Word)} (e : Env)
    (hlen : rs.length = s.cursor.toNat - s.sessionBase.toNat) (hrs : RepliesKnown s.writeLog s.sessionBase.toNat rs) :
    DumpSends s (afterReads s.sessionBase.toNat rs s e) := by
  refine ⟨rs, hlen, hrs, ?_⟩
  have haddr : ∀ k, BitVec.ofNat 16 (s.sessionBase.toNat + k) = s.sessionBase + BitVec.ofNat 16 k := by
    intro k
    rw [BitVec.ofNat_add, BitVec.ofNat_toNat, BitVec.setWidth_eq]
  simp only [afterReads, haddr]

/-- The dump of an awake device (41_protocol_engine.md R186). -/
theorem dumpBody_awake {s : State} (hd : s.drvActive = true) (hw : s.pwr = .awake) (hcs : s.cs = false)
    (hc : s.cursor.toNat < s.cfg.nvmWords) : ∃ t, DumpSends s t ∧ dumpBody s = .done () t := by
  obtain ⟨rs, e, hlen, hrs, hdump⟩ := dumpWords_awake (sessionWords s) (a := s.sessionBase.toNat) hd hw hcs
    fun k hk => by
      have := s.cursor.isLt
      unfold sessionWords at hk
      omega
  exact ⟨_, dumpSends_afterReads e hlen hrs, by rw [dumpBody, quiesceBody_awake hd hw]; exact hdump⟩

/-- A successful quiesce comes first (41_protocol_engine.md R186). -/
theorem dumpBody_quiesced {s : State} (h : (quiesceBody s).1 = .ok) : dumpBody s = dumpBody (quiesceBody s).2 := by
  have hq : quiesceBody s = (.ok, (quiesceBody s).2) := Prod.ext h rfl
  rw [dumpBody, dumpBody, quiesceBody_again h, hq]

/-- Settles O27: the dump of an awake, of an unquiet and of a quieted device. -/
theorem peDumpResult : Obligations.PeDumpResult := by
  intro s
  refine ⟨fun hd hw hcs hc => ?_, fun h => ?_, fun h => ?_⟩
  · obtain ⟨t, ht, hdump⟩ := dumpBody_awake hd hw hcs hc
    exact ⟨t, ht, returns_of_complete (by simp only [exec, execPeDump, hdump, completeBody])⟩
  · exact returns_of_complete (by
      simp only [exec, execPeDump, dumpBody_not_quiet h, completeBody, State.memError, DeviceFlags.setMemError])
  · simp only [exec, execPeDump, dumpBody_quiesced h]

/-! ### The two transitions, by the buffer's timestamp -/

/-- The timestamp cells are cells 1 to 14 (00_scope.md R10). -/
theorem forall_mem_timestampCells {b : Vector Byte 16} {P : Byte → Prop} :
    (∀ c ∈ timestampCells b, P c) ↔ ∀ k : Fin 16, 1 ≤ k.val → k.val ≤ 14 → P b[k.val] := by
  have hcell : ∀ (i : Nat) (hi : i < (timestampCells b).length) (hb : i + 1 < 16), (timestampCells b)[i] = b[i + 1] := by
    intro i hi hb
    simp [timestampCells]
  rw [List.forall_mem_iff_forall_getElem]
  refine ⟨fun h k h1 h14 => ?_, fun h i hi => ?_⟩
  · obtain ⟨i, hi⟩ := Nat.exists_eq_add_of_le' h1
    have hlen : i < (timestampCells b).length := by rw [timestampCells_length]; omega
    simpa only [hi, hcell i hlen (by omega)] using h i hlen
  · have h14 : i < 14 := timestampCells_length b ▸ hi
    rw [hcell i hi (by omega)]
    exact h ⟨i + 1, by omega⟩ (by simp) (by simpa using h14)

theorem validTimestamp_cells_iff (s : State) : validTimestamp (timestampCells s.buf) = true ↔ DigitsInBuffer s :=
  (validTimestamp_iff (timestampCells_length _)).trans forall_mem_timestampCells

section
variable {s : State}

/-- The `B` transition begins a session at the cursor (42_session_controller.md R211). -/
theorem beginBody_digits (hd : DigitsInBuffer s) (hl : s.df.logging = false) :
    beginBody (timestampCells s.buf) s = { s with df := { s.df with logging := true }, sessionBase := s.cursor } := by
  simp [beginBody, (validTimestamp_cells_iff s).2 hd, hl, DeviceFlags.setLogging]

theorem beginBody_ignored (h : s.df.logging = true ∨ ¬ DigitsInBuffer s) : beginBody (timestampCells s.buf) s = s := by
  rw [← validTimestamp_cells_iff] at h
  rcases h with h | h <;> simp [beginBody, h]

/-- The `E` transition ends the session (42_session_controller.md R212). -/
theorem endBody_digits (hd : DigitsInBuffer s) (hl : s.df.logging = true) :
    endBody (timestampCells s.buf) s = { s with df := { s.df with logging := false } } := by
  simp [endBody, (validTimestamp_cells_iff s).2 hd, hl, DeviceFlags.setLogging]

theorem endBody_ignored (h : s.df.logging = false ∨ ¬ DigitsInBuffer s) : endBody (timestampCells s.buf) s = s := by
  rw [← validTimestamp_cells_iff] at h
  rcases h with h | h <;> simp [endBody, h]

end

/-! ### The switch of dispatch -/

/-- When dispatch does not discard for overflow (R185). -/
theorem overflowDiscards_eq_false {s : State} (hw : s.cfg.ovfDiscardScope = .window → s.wovf = false)
    (hs : s.cfg.ovfDiscardScope = .sticky → s.df.cmdOverflow = false) : overflowDiscards s = false := by
  rw [← Bool.not_eq_true, overflowDiscards_iff]
  rintro (⟨h, ho⟩ | ⟨h, ho⟩)
  · simp [hw h] at ho
  · simp [hs h] at ho

section
variable {s : State}

theorem dispatchSwitch_empty (h : s.idx = 0) : dispatchSwitch s = .done () s := if_pos h

theorem dispatchSwitch_overflowed (h : overflowDiscards s = true) : dispatchSwitch s = .done () s := by
  simp [dispatchSwitch, h]

variable (hi : s.idx ≠ 0) (ho : overflowDiscards s = false)
include hi ho

/-- The switch on the first byte of a frame that is neither empty nor overflowed. -/
theorem dispatchSwitch_frame :
    dispatchSwitch s =
      if s.buf[0] = 0x44#8 then dumpBody s
      else if s.buf[0] = 0x42#8 then .done () (beginBody (timestampCells s.buf) s)
      else if s.buf[0] = 0x45#8 then .done () (endBody (timestampCells s.buf) s)
      else .done () s := by
  rw [dispatchSwitch, if_neg hi, if_neg (by simp [ho])]

theorem dispatchSwitch_dump (hb : s.buf[0] = 0x44#8) : dispatchSwitch s = dumpBody s := by
  rw [dispatchSwitch_frame hi ho, if_pos hb]

theorem dispatchSwitch_begin (hb : s.buf[0] = 0x42#8) :
    dispatchSwitch s = .done () (beginBody (timestampCells s.buf) s) := by
  simp [dispatchSwitch_frame hi ho, hb]

theorem dispatchSwitch_end (hb : s.buf[0] = 0x45#8) :
    dispatchSwitch s = .done () (endBody (timestampCells s.buf) s) := by
  simp [dispatchSwitch_frame hi ho, hb]

/-- A frame that is no `D` and whose transition is not due does nothing (30_encoding.md R110; 42_session_controller.md
R211, R212). -/
theorem dispatchSwitch_ignored
    (h : s.buf[0] = 0x42#8 ∧ s.df.logging = true ∨ s.buf[0] = 0x45#8 ∧ s.df.logging = false ∨
      s.buf[0] ≠ 0x44#8 ∧ ¬ DigitsInBuffer s ∨ s.buf[0] ≠ 0x44#8 ∧ s.buf[0] ≠ 0x42#8 ∧ s.buf[0] ≠ 0x45#8) :
    dispatchSwitch s = .done () s := by
  by_cases hB : s.buf[0] = 0x42#8
  · rw [dispatchSwitch_begin hi ho hB, beginBody_ignored (by simpa [hB] using h)]
  by_cases hE : s.buf[0] = 0x45#8
  · rw [dispatchSwitch_end hi ho hE, endBody_ignored (by simpa [hE] using h)]
  have hD : s.buf[0] ≠ 0x44#8 := by
    rcases h with ⟨h, -⟩ | ⟨h, -⟩ | ⟨h, -⟩ | ⟨h, -⟩
    exacts [absurd h hB, absurd h hE, h, h]
  rw [dispatchSwitch_frame hi ho, if_neg hD, if_neg hB, if_neg hE]

end

/-- A quiesce changes nothing the switch reads. -/
theorem dispatchSwitch_quiesced {s : State} (hi : s.idx ≠ 0) (ho : overflowDiscards s = false)
    (hb : s.buf[0] = 0x44#8) (h : (quiesceBody s).1 = .ok) : dispatchSwitch s = dispatchSwitch (quiesceBody s).2 := by
  obtain ⟨hm, -, hdf, -⟩ := quiesceBody_moves s
  have ho' : overflowDiscards (quiesceBody s).2 = false := by
    rw [overflowDiscards, hm.wovf, hm.cfg, hdf]
    exact ho
  rw [dispatchSwitch_dump hi ho hb, dispatchSwitch_dump (hm.idx ▸ hi) ho' (hm.buf ▸ hb), dumpBody_quiesced h]

/-- PE_DISPATCH is its switch, the buffer cleared after it (R185). -/
theorem returns_of_dispatchSwitch {s t : State} (h : dispatchSwitch s = .done () t) :
    Returns .peDispatch s (.code .ok) { t with idx := 0, wovf := false } :=
  returns_of_complete (by simp only [exec, execPeDispatch, dispatchBody, h, clearAfter, completeBody, State.clearBuffer])

/-- Settles O26: PE_DISPATCH by the cases of its switch. -/
theorem peDispatchResult : Obligations.PeDispatchResult := by
  intro s
  refine ⟨fun h => returns_of_dispatchSwitch (dispatchSwitch_empty h),
    fun h => returns_of_dispatchSwitch (dispatchSwitch_overflowed ((overflowDiscards_iff s).2 h)), fun hi hw hs => ?_⟩
  have ho := overflowDiscards_eq_false hw hs
  refine ⟨fun hb hd hp hcs hc => ?_, fun hb hq => ?_, fun hb hq => ?_, fun hb hdig hl => ?_, fun hb hdig hl => ?_,
    fun h => returns_of_dispatchSwitch (dispatchSwitch_ignored hi ho h)⟩
  · obtain ⟨t, ht, hdump⟩ := dumpBody_awake hd hp hcs hc
    exact ⟨t, ht, returns_of_dispatchSwitch ((dispatchSwitch_dump hi ho hb).trans hdump)⟩
  · exact returns_of_dispatchSwitch ((dispatchSwitch_dump hi ho hb).trans (dumpBody_not_quiet hq))
  · simp only [exec, execPeDispatch, dispatchBody, dispatchSwitch_quiesced hi ho hb hq]
  · have hB := dispatchSwitch_begin hi ho hb
    rw [beginBody_digits hdig hl] at hB
    exact returns_of_dispatchSwitch hB
  · have hE := dispatchSwitch_end hi ho hb
    rw [endBody_digits hdig hl] at hE
    exact returns_of_dispatchSwitch hE

/-! ### The window -/

/-- The resumption of PE_EXCHANGE at its closed window (R183). -/
theorem exec_peExchange_closed {s : State} (hw : s.hold = .window) (hrx : s.rxEn = false) :
    exec .peExchange s = exec .peDispatch (s.setHold .none) := by
  simp [exec, execPeExchange, execPeDispatch, hw, hrx]

/-- Settles O25: PE_EXCHANGE by its hold, and the empty window by the switch. -/
theorem peExchangeResult : Obligations.PeExchangeResult := by
  intro s
  refine ⟨fun hn => ?_, fun hw hrx => ?_, exec_peExchange_closed, fun hw hrx hi => ?_⟩
  · simp only [exec, execPeExchange, hn, reduceCtorEq, if_false]
    rfl
  · simp only [exec, execPeExchange, hw, hrx, if_true]
  · exact (exec_peExchange_closed hw hrx).trans
      (returns_of_dispatchSwitch (dispatchSwitch_empty (s := s.setHold .none) hi))

/-! ### The host command a window holds -/

theorem command_eq_some_iff {s : State} {h : Instr} :
    s.command = some h ↔ s.idx ≠ 0 ∧ overflowDiscards s = false ∧ decodeFrame (frameCells s.buf) = .ok h := by
  unfold State.command
  split
  · next hi => simp [hi]
  · next hi =>
    split
    · next ho => simp [ho]
    · next ho =>
      rw [Bool.not_eq_true] at ho
      simp only [ne_eq, hi, not_false_eq_true, ho, true_and]
      cases decodeFrame (frameCells s.buf) <;> simp [Except.toOption]

/-- At a closed window the agent runs the host command the window holds (log 10). -/
theorem nextAction_of_command {s : State} {i h : Instr} (hw : s.hold = .window) (hrx : s.rxEn = false)
    (hc : s.currentRequest = some i) (hi : i = .peExchange ∨ i = .scTickCycle) (hcmd : s.command = some h) :
    s.nextAction = .run h := by
  obtain ⟨w, hf, hd⟩ := fetchWord_of_currentRequest hc
  simp [State.nextAction, hf, hd, hw, hrx, hi, hcmd]

/-- Settles O6: the agent's turn at the closed window runs the frame's command (`nextAction_of_command`). -/
theorem stepRunsTheHostCommand : Obligations.StepRunsTheHostCommand := by
  intro s e h turn hf hr hw hrx hc hi ho hdec
  obtain ⟨i, hcur, hcont⟩ : ∃ i, s.currentRequest = some i ∧ (i = .peExchange ∨ i = .scTickCycle) := by
    rcases hc with hc | hc
    · exact ⟨_, hc, .inl rfl⟩
    · exact ⟨_, hc, .inr rfl⟩
  obtain ⟨w, hfetch, -⟩ := fetchWord_of_currentRequest hcur
  have hstay : ({ s with env := e } : State).followGoto = { s with env := e } := followGoto_of_fetch hfetch
  have hact : ({ s with env := e } : State).nextAction = .run h :=
    nextAction_of_command hw hrx hcur hcont (command_eq_some_iff.2 ⟨hi, ho, hdec⟩)
  rw [step_agent turn, agentTurn_live (s := { s with env := e }) hf hr, hstay, hact]

/-- The host command of the buffer's frame, by its first byte (30_encoding.md R105 to R108). -/
theorem decodeFrame_cells {b : Vector Byte 16} {h : Instr} (hd : decodeFrame (frameCells b) = .ok h) :
    (b[0] = 0x44#8 ∧ ∃ rest, h = .hostD rest) ∨ (b[0] = 0x42#8 ∧ ∃ f, h = .hostB (timestampCells b) f) ∨
      (b[0] = 0x45#8 ∧ ∃ f, h = .hostE (timestampCells b) f) := by
  have hcells : frameCells b = b[0] :: b.toList.drop 1 := by
    simpa [frameCells] using List.drop_eq_getElem_cons (l := b.toList) (i := 0) (by simp)
  have hlen : (frameCells b).length = Config.bufferCapacity := by simp [frameCells, Config.bufferCapacity]
  unfold decodeFrame at hd
  rw [if_pos hlen, hcells] at hd
  dsimp only at hd
  split at hd
  · next hD => exact .inl ⟨hD, _, (Except.ok.inj hd).symm⟩
  · split at hd
    · next hB => exact .inr (.inl ⟨hB, _, (Except.ok.inj hd).symm⟩)
    · split at hd
      · next hE => exact .inr (.inr ⟨hE, _, (Except.ok.inj hd).symm⟩)
      · cases hd

/-- What dispatch would do with the window is the body of the host command the window holds. -/
theorem exec_command {s : State} {h : Instr} (hcmd : s.command = some h) :
    ∃ body, exec h s = hostCommand body s ∧ body (s.setHold .none) = dispatchSwitch (s.setHold .none) := by
  obtain ⟨hi, ho, hd⟩ := command_eq_some_iff.1 hcmd
  have hi' : (s.setHold .none).idx ≠ 0 := hi
  have ho' : overflowDiscards (s.setHold .none) = false := ho
  rcases decodeFrame_cells hd with ⟨hb, rest, rfl⟩ | ⟨hb, f, rfl⟩ | ⟨hb, f, rfl⟩
  · exact ⟨dumpBody, rfl, (dispatchSwitch_dump hi' ho' hb).symm⟩
  · exact ⟨fun u => .done () (beginBody (timestampCells s.buf) u), rfl, (dispatchSwitch_begin hi' ho' hb).symm⟩
  · exact ⟨fun u => .done () (endBody (timestampCells s.buf) u), rfl, (dispatchSwitch_end hi' ho' hb).symm⟩

/-- Settles O7: the host command's body is the dispatch (`exec_command`), and it goes on as the request at `CP`. -/
theorem hostCommandIsTheDispatch : Obligations.HostCommandIsTheDispatch := by
  intro s i h hw hrx hc hi hcmd
  obtain ⟨body, hexec, hbody⟩ := exec_command hcmd
  rw [hexec, hostCommand, hbody]
  rcases hi with rfl | rfl
  · simp [hc, exec, execPeExchange, hw, hrx, dispatchBody]
  · simp [hc, exec, execScTickCycle, hw, hrx, dispatchBody]

/-- Quiescing a powered-down device issues nothing and does not succeed (42_session_controller.md R214). -/
theorem quiesceBody_powered_down {s : State} (h : s.pwr = .poweredDown) : quiesceBody s = (.notReady, s) := by
  simp [quiesceBody, pollBusy_of_not_busy, h]

/-- `D` under PE_EXCHANGE is the dump with the hold released, the buffer cleared after it (30_encoding.md R108). -/
theorem returns_hostD {s t : State} (rest : List Byte) (hc : s.currentRequest = some .peExchange)
    (hdump : dumpBody (s.setHold .none) = .done () t) :
    Returns (.hostD rest) s (.code .ok) { t with idx := 0, wovf := false } :=
  returns_of_complete (by simp [exec, execHostD, hostCommand, hc, hdump, clearAfter, completeBody, State.clearBuffer])

/-- Settles O35: the dump of an awake and of a powered-down device, the hold released. -/
theorem hostDumpResult : Obligations.HostDumpResult := by
  intro s rest hc
  refine ⟨fun hd hw hcs hcur => ?_, fun hp => ?_⟩
  · obtain ⟨t, ht, hdump⟩ := dumpBody_awake (s := s.setHold .none) hd hw hcs hcur
    exact ⟨t, ht, returns_hostD rest hc hdump⟩
  · have hq : quiesceBody (s.setHold .none) = (.notReady, s.setHold .none) := quiesceBody_powered_down hp
    have hdump := dumpBody_not_quiet (s := s.setHold .none) (by simp [hq])
    rw [hq] at hdump
    exact returns_hostD rest hc hdump

end Sys2Proof.Machine
end

section
/-! PROOFS. The family 42_session_controller.md. The transitions on any timestamp, the sample from its reading, the
poll as iterated refreshes, and the tick cycle in its parts: what `tickAfterDispatch` leaves is `TickCycleGoesOn`
(`tickCycleGoesOn_of_exec`), for the request and for a host command alike. -/

namespace Sys2Proof.Machine

open Sys2Proof.Claims

/-! ### The transitions -/

/-- Settles O28: the two transitions on the buffer's timestamp. -/
theorem sessionTransitions : Obligations.SessionTransitions := by
  intro s
  refine ⟨fun hd hl => ?_, fun h => ?_, fun hd hl => ?_, fun h => ?_⟩ <;> apply returns_of_complete
  · simp only [exec, execScBegin, beginBody_digits hd hl]
  · simp only [exec, execScBegin, beginBody_ignored h.symm]
  · simp only [exec, execScEnd, endBody_digits hd hl]
  · simp only [exec, execScEnd, endBody_ignored h.symm]

section
variable {ts : List Byte} {s : State} (hlen : ts.length = 14)
include hlen

theorem validTimestamp_eq_false (h : ∃ c ∈ ts, c < 0x30#8 ∨ 0x39#8 < c) : validTimestamp ts = false := by
  obtain ⟨c, hc, hout⟩ := h
  rw [← Bool.not_eq_true, validTimestamp_iff hlen]
  intro hall
  obtain ⟨hlow, hhigh⟩ := hall c hc
  exact hout.elim (fun h => absurd h (BitVec.not_lt.2 hlow)) (fun h => absurd h (BitVec.not_lt.2 hhigh))

theorem beginBody_of_digits (hd : ∀ c ∈ ts, 0x30#8 ≤ c ∧ c ≤ 0x39#8) (hl : s.df.logging = false) :
    beginBody ts s = { s with df := { s.df with logging := true }, sessionBase := s.cursor } := by
  simp [beginBody, (validTimestamp_iff hlen).2 hd, hl, DeviceFlags.setLogging]

theorem beginBody_of_not_due (h : (∃ c ∈ ts, c < 0x30#8 ∨ 0x39#8 < c) ∨ s.df.logging = true) :
    beginBody ts s = s := by
  rcases h with h | h
  · simp [beginBody, validTimestamp_eq_false hlen h]
  · simp [beginBody, h]

theorem endBody_of_digits (hd : ∀ c ∈ ts, 0x30#8 ≤ c ∧ c ≤ 0x39#8) (hl : s.df.logging = true) :
    endBody ts s = { s with df := { s.df with logging := false } } := by
  simp [endBody, (validTimestamp_iff hlen).2 hd, hl, DeviceFlags.setLogging]

theorem endBody_of_not_due (h : (∃ c ∈ ts, c < 0x30#8 ∨ 0x39#8 < c) ∨ s.df.logging = false) :
    endBody ts s = s := by
  rcases h with h | h
  · simp [endBody, validTimestamp_eq_false hlen h]
  · simp [endBody, h]

end

/-! ### The sample -/

/-- The state in which SC_SAMPLE calls SD_LOG: the reading is taken and a sensor failure flagged (R213). -/
abbrev afterReading (s : State) (ok : Bool) (e : Env) : State :=
  { s with env := e, df := { s.df with tempError := s.df.tempError || !ok } }

theorem tempError_of_reading (f : DeviceFlags) (ok : Bool) :
    (if ok then f else f.setTempError) = { f with tempError := f.tempError || !ok } := by
  cases ok <;> simp [DeviceFlags.setTempError]

theorem sampleBody_idle {s : State} (hl : s.df.logging = false) : sampleBody s = .done () s := by
  simp [sampleBody, hl]

section
variable {s t : State} {v : Word} {ok : Bool} {e : Env} (hl : s.df.logging = true)
  (hs : s.env.drawSensor = ((v, ok), e))
include hl hs

theorem sampleBody_logged {f : Byte} (hlog : logBody v (afterReading s ok e) = .done f t) :
    sampleBody s = .done () { t with df := { t.df with memError := t.df.memError || decide (f ≠ 0) } } := by
  rw [sampleBody, if_pos hl]
  simp only [hs, tempError_of_reading, hlog]
  by_cases hf : f = 0#8 <;> simp [hf, State.memError, DeviceFlags.setMemError]

theorem sampleBody_faulted (hlog : logBody v (afterReading s ok e) = .faulted t) : sampleBody s = .faulted t := by
  rw [sampleBody, if_pos hl]
  simp only [hs, tempError_of_reading, hlog]

end

theorem returns_scSample {s t : State} (h : sampleBody s = .done () t) : Returns .scSample s (.code .ok) t :=
  returns_of_complete (by simp only [exec, execScSample, h, completeBody])

/-- Settles O29: the sample is SD_LOG's body on the reading (`sampleBody_logged`), so a case of SD_LOG each. -/
theorem scSampleResult : Obligations.ScSampleResult := by
  intro s
  refine ⟨fun hl => returns_scSample (sampleBody_idle hl), fun v ok e hl hs => ⟨fun hr => ?_,
    fun o1 b1 e1 o2 b2 e2 o e3 hr h1 h2 ho1 ho2 hbusy hprot ho hroom => ?_,
    fun f t hlog => returns_scSample (sampleBody_logged hl hs hlog), fun t hlog => ?_⟩⟩
  · have hsample := sampleBody_logged hl hs (logBody_not_ready (s := afterReading s ok e) v hr)
    rw [decide_eq_true (show flagNotReady ≠ 0 by decide), Bool.or_true] at hsample
    exact returns_scSample hsample
  · subst ho1 ho2
    have hz : declineFlags s.cfg b1 b2 = 0 :=
      not_ne_iff.1 (mt (declineFlags_ne_zero_iff s b1 b2).1 (not_or.2 ⟨hbusy, hprot⟩))
    have hlog := logBody_writes (s := afterReading s ok e) (v := v) hr (readStatus_ok h1 h2 rfl rfl) hz ho
    rw [if_neg hroom] at hlog
    have hsample := returns_scSample (sampleBody_logged hl hs hlog)
    cases o <;> exact hsample
  · simp only [exec, execScSample, sampleBody_faulted hl hs hlog, completeBody]

/-! ### The quiesce -/

section
variable {s t : State} {n : Nat}

/-- The poll goes on from what one refresh of a busy device leaves (42_session_controller.md R214). -/
theorem pollBusy_succ (n : Nat) (hd : s.drvActive = true) (hb : s.pwr = .busy) :
    pollBusy (n + 1) s = pollBusy n (refreshBody s).2 := by
  simp [pollBusy, hd, hb]

/-- Refreshing a busy device leaves it Busy or finds it Awake (40_store_driver.md R145). -/
theorem refreshBody_busy_pwr (hb : s.pwr = .busy) : (refreshBody s).2.pwr = .awake ∨ (refreshBody s).2.pwr = .busy := by
  rcases refreshBody_followsBusyBit s with h | ⟨-, h⟩
  · exact .inr (h.trans hb)
  · exact h

/-- The poll of a busy device is `k` refreshes, all of them of a busy device; it ends with the device Awake, or Busy
when the limit is reached. -/
theorem pollBusy_iterate (n : Nat) (hd : s.drvActive = true) (hb : s.pwr = .busy) :
    ∃ k, k ≤ n ∧ pollBusy n s = (fun u => (refreshBody u).2)^[k] s ∧
      (∀ j, j < k → ((fun u => (refreshBody u).2)^[j] s).pwr = .busy) ∧
      ((pollBusy n s).pwr = .awake ∨ (pollBusy n s).pwr = .busy ∧ k = n) := by
  induction n generalizing s with
  | zero => exact ⟨0, le_rfl, rfl, fun _ hj => absurd hj (Nat.not_lt_zero _), .inr ⟨hb, rfl⟩⟩
  | succ n ih =>
    rw [pollBusy_succ n hd hb]
    rcases refreshBody_busy_pwr hb with ha | hb'
    · rw [pollBusy_of_not_busy n (by simp [ha])]
      refine ⟨1, by omega, rfl, fun j hj => ?_, .inl ha⟩
      obtain rfl : j = 0 := by omega
      exact hb
    · obtain ⟨k, hk, hpoll, hbusy, hend⟩ := ih ((refreshBody_moves s).1.drvActive.trans hd) hb'
      refine ⟨k + 1, by omega, hpoll, fun j hj => ?_, hend.imp_right fun ⟨h, hkn⟩ => ⟨h, by rw [hkn]⟩⟩
      cases j with
      | zero => exact hb
      | succ j => exact hbusy j (by omega)

/-- What the quiesce answers when its poll ends on an awake device. -/
theorem quiesceBody_of_poll_awake (hd : s.drvActive = true) (hp : (pollBusy s.cfg.busyPollLimit s).pwr = .awake) :
    quiesceBody s = (.ok, pollBusy s.cfg.busyPollLimit s) := by
  have hdrv := (pollBusy_moves s.cfg.busyPollLimit s).1.drvActive.trans hd
  simp [quiesceBody, hdrv, hp]

/-- What the quiesce answers when its poll ends on a busy device. -/
theorem quiesceBody_of_poll_busy (hp : (pollBusy s.cfg.busyPollLimit s).pwr = .busy) :
    quiesceBody s = (.busBusy, pollBusy s.cfg.busyPollLimit s) := by
  simp [quiesceBody, hp]

/-- A device that is down, waking or released is left alone (42_session_controller.md R214). -/
theorem quiesceBody_unready
    (h : s.pwr = .poweredDown ∨ s.pwr = .waking ∨ s.drvActive = false ∧ s.pwr = .awake) :
    quiesceBody s = (.notReady, s) := by
  rcases h with h | h | ⟨hd, h⟩
  · exact quiesceBody_powered_down h
  · simp [quiesceBody, pollBusy_of_not_busy, h]
  · simp [quiesceBody, pollBusy_of_not_busy, hd, h]

/-- A busy device that the first refresh finds Awake. -/
theorem quiesceBody_first_refresh {r : ResultCode} (hd : s.drvActive = true) (hb : s.pwr = .busy)
    (hlim : 0 < s.cfg.busyPollLimit) (href : refreshBody s = (r, t)) (ha : t.pwr = .awake) :
    quiesceBody s = (.ok, t) := by
  obtain ⟨n, hn⟩ := Nat.exists_eq_add_of_le' hlim
  have hpoll : pollBusy s.cfg.busyPollLimit s = t := by
    rw [hn, pollBusy_succ n hd hb, href, pollBusy_of_not_busy n (by simp [ha])]
  rw [quiesceBody_of_poll_awake hd (hpoll ▸ ha), hpoll]

theorem returns_scQuiesce {r : ResultCode} (h : quiesceBody s = (r, t)) : Returns .scQuiesce s (.code r) t :=
  returns_of_complete (by simp only [exec, execScQuiesce, h])

end

/-- Settles O30: the quiesce is its poll (`pollBusy_iterate`), which does nothing to a device that is not busy. -/
theorem scQuiesceResult : Obligations.ScQuiesceResult := by
  intro s
  refine ⟨fun hd ha => returns_scQuiesce (quiesceBody_awake hd ha), fun h => returns_scQuiesce (quiesceBody_unready h),
    fun hd hb => ?_⟩
  obtain ⟨k, hk, hpoll, hbusy, hend⟩ := pollBusy_iterate s.cfg.busyPollLimit hd hb
  refine ⟨k, pollBusy s.cfg.busyPollLimit s, hk, hpoll, hbusy, ?_⟩
  rcases hend with ha | ⟨hb', hkn⟩
  · exact .inl ⟨ha, returns_scQuiesce (quiesceBody_of_poll_awake hd ha)⟩
  · exact .inr ⟨hb', hkn, returns_scQuiesce (quiesceBody_of_poll_busy hb')⟩

/-! ### The tick cycle up to its window -/

section
variable {s t : State}

theorem State.setHold_self {h : Hold} (hh : s.hold = h) : s.setHold h = s := by rw [State.setHold, ← hh]

theorem tickBegin_powered_down (hd : s.drvActive = true) (hp : s.pwr = .poweredDown) :
    tickBegin s = .next { wakeTrigger s with pwr := .waking, hold := .settle } := by
  simp [tickBegin, hd, hp, udpdExitBody_powered_down hd hp, State.setHold]

theorem tickBegin_waking (hw : s.pwr = .waking) : tickBegin s = .next (s.setHold .settle) := by
  simp [tickBegin, hw]

theorem tickBegin_settled (h : s.drvActive = false ∨ s.pwr ≠ .poweredDown) (hw : s.pwr ≠ .waking) :
    tickBegin s = tickToWindow s := by
  have hno : (s.drvActive && decide (s.pwr = .poweredDown)) = false := by
    rcases h with h | h <;> simp [h]
  simp [tickBegin, hno, hw]

/-- No sample comes before the window in EXCHANGE_FIRST, nor in an idle session (42_session_controller.md R215). -/
theorem tickToWindow_unsampled (h : s.cfg.tickOrder = .exchangeFirst ∨ s.df.logging = false) :
    tickToWindow s = .next (openWindow s) := by
  unfold tickToWindow
  cases ho : s.cfg.tickOrder with
  | exchangeFirst => rfl
  | sampleFirst => simp [sampleBody_idle (h.resolve_left (by simp [ho]))]

theorem tickToWindow_sampled (ho : s.cfg.tickOrder = .sampleFirst) (hs : sampleBody s = .done () t) :
    tickToWindow s = .next (openWindow t) := by
  simp only [tickToWindow, ho, hs]

theorem tickToWindow_faulted (ho : s.cfg.tickOrder = .sampleFirst) (hs : sampleBody s = .faulted t) :
    tickToWindow s = .next t := by
  simp only [tickToWindow, ho, hs]

/-- Once the device is settled the cycle goes to its window with no hold. -/
theorem exec_scTickCycle_settled
    (h : s.hold = .none ∧ (s.drvActive = false ∨ s.pwr ≠ .poweredDown) ∨ s.hold = .settle) (hw : s.pwr ≠ .waking) :
    exec .scTickCycle s = tickToWindow (s.setHold .none) := by
  rcases h with ⟨hn, h⟩ | hs
  · simp [exec, execScTickCycle, hn, tickBegin_settled h hw, State.setHold_self hn]
  · simp [exec, execScTickCycle, hs, hw]

end

/-- Settles O31: the cycle's beginning by its hold and the power state, then the way to the window. -/
theorem tickCycleOpens : Obligations.TickCycleOpens := by
  intro s
  refine ⟨fun hn hd hp => ?_, fun hw h => ?_, fun h hw => ?_⟩
  · simp [exec, execScTickCycle, hn, tickBegin_powered_down hd hp, wakeTrigger]
  · rcases h with hn | hs
    · simp [exec, execScTickCycle, hn, tickBegin_waking hw, State.setHold]
    · have hkept : exec .scTickCycle s = .next s := by simp [exec, execScTickCycle, hs, hw]
      exact hkept.trans (congrArg Host.Outcome.next (State.setHold_self hs).symm)
  · rw [exec_scTickCycle_settled h hw]
    exact ⟨fun hno => tickToWindow_unsampled (s := s.setHold .none) hno, fun ho =>
      ⟨fun t hs => tickToWindow_sampled (s := s.setHold .none) ho hs,
        fun t hs => tickToWindow_faulted (s := s.setHold .none) ho hs⟩⟩

/-! ### The end of the tick cycle -/

section
variable {s t u : State} {i : Instr}

/-- A quieted device is powered down, a bus error flagged (42_session_controller.md R215). -/
theorem tickPowerDown_quiet {o : BusOutcome} {e : Env} (hq : quiesceBody s = (.ok, t))
    (ho : t.env.drawOutcome = (o, e)) :
    tickPowerDown s = { afterTxn t .udpd o .none e with
      pwr := .poweredDown
      srValid := false
      df := { t.df with memError := t.df.memError || decide (o = .err) } } := by
  obtain ⟨hd, ha⟩ := quiesceBody_ok s (by rw [hq])
  rw [hq] at hd ha
  simp only [tickPowerDown, hq, udpdEnterBody_awake hd ha ho, if_true]
  cases o <;> simp [State.memError, DeviceFlags.setMemError]

/-- A device that stays busy, or that is down under a driver that owns the bus, is flagged. -/
theorem tickPowerDown_not_quiet {q : ResultCode} (hq : quiesceBody s = (q, t)) (hne : q ≠ .ok) :
    tickPowerDown s = if s.drvActive = true then { t with df := { t.df with memError := true } } else t := by
  have hdrv : t.drvActive = s.drvActive := by
    have h := (quiesceBody_moves s).1.drvActive
    rwa [hq] at h
  rw [← hdrv]
  simp only [tickPowerDown, hq, hne, if_false]
  rfl

theorem quiescedAndDown_of_exec (h : exec i s = complete (.code .ok) (tickPowerDown u)) : QuiescedAndDown i s u :=
  ⟨fun _ _ _ hq ho => returns_of_complete (by rw [h, tickPowerDown_quiet hq ho]),
    fun _ _ hq hne => returns_of_complete (by rw [h, tickPowerDown_not_quiet hq hne])⟩

/-- No sample comes after the window in SAMPLE_FIRST, nor in an idle session (42_session_controller.md R215). -/
theorem tickAfterWindow_unsampled (h : u.cfg.tickOrder = .sampleFirst ∨ u.df.logging = false) :
    tickAfterWindow u = .done () (tickPowerDown u) := by
  unfold tickAfterWindow
  cases ho : u.cfg.tickOrder with
  | sampleFirst => rfl
  | exchangeFirst => simp [sampleBody_idle (h.resolve_left (by simp [ho]))]

theorem tickAfterWindow_sampled (ho : u.cfg.tickOrder = .exchangeFirst) (hs : sampleBody u = .done () t) :
    tickAfterWindow u = .done () (tickPowerDown t) := by
  simp only [tickAfterWindow, ho, hs]

theorem tickAfterWindow_faulted (ho : u.cfg.tickOrder = .exchangeFirst) (hs : sampleBody u = .faulted t) :
    tickAfterWindow u = .faulted t := by
  simp only [tickAfterWindow, ho, hs]

/-- Whatever runs the rest of the cycle from `u` on goes on as the tick cycle does. -/
theorem tickCycleGoesOn_of_exec (h : exec i s = tickAfterDispatch (.done () u)) : TickCycleGoesOn i s u := by
  refine ⟨fun hno => quiescedAndDown_of_exec ?_, fun ho => ⟨fun t hs => quiescedAndDown_of_exec ?_, fun t hs => ?_⟩⟩
  · rw [h, tickAfterDispatch, tickAfterWindow_unsampled hno, completeBody]
  · rw [h, tickAfterDispatch, tickAfterWindow_sampled ho hs, completeBody]
  · rw [h, tickAfterDispatch, tickAfterWindow_faulted ho hs, completeBody]

/-- The resumption of SC_TICK_CYCLE at its closed window. -/
theorem exec_scTickCycle_closed (hw : s.hold = .window) (hrx : s.rxEn = false) :
    exec .scTickCycle s = tickAfterDispatch (dispatchBody (s.setHold .none)) := by
  simp [exec, execScTickCycle, hw, hrx]

end

/-! ### The dispatch of a closed window -/

section
variable {s t : State}

theorem overflowDiscards_eq_false_iff :
    overflowDiscards s = false ↔ (s.cfg.ovfDiscardScope = .window → s.wovf = false) ∧
      (s.cfg.ovfDiscardScope = .sticky → s.df.cmdOverflow = false) := by
  rw [← Bool.not_eq_true, overflowDiscards_iff]
  simp

theorem dispatchBody_of_switch (h : dispatchSwitch s = .done () t) : dispatchBody s = .done () t.clearBuffer := by
  rw [dispatchBody, h, clearAfter]

/-- The dump of a device that can be quieted (41_protocol_engine.md R186). -/
theorem dumpBody_sends (hq : (quiesceBody s).1 = .ok) (hcs : s.cs = false) (hc : s.cursor.toNat < s.cfg.nvmWords) :
    ∃ t, DumpSends (quiesceBody s).2 t ∧ dumpBody s = .done () t := by
  obtain ⟨hm, hn, -, -⟩ := quiesceBody_moves s
  obtain ⟨hd, ha⟩ := quiesceBody_ok s hq
  rw [dumpBody_quiesced hq]
  exact dumpBody_awake hd ha (hm.cs_low hcs) (by rwa [hn.cursor, hm.cfg])

/-- The window's frame, neither empty nor overflowed, is what the switch looks at once the hold is released. -/
theorem dispatchBody_windowDispatched_frame (hi : s.idx ≠ 0) (ho : overflowDiscards s = false) (hcs : s.cs = false)
    (hc : s.cursor.toNat < s.cfg.nvmWords) :
    ∃ u, dispatchBody (s.setHold .none) = .done () u ∧ WindowDispatched s u := by
  have hi' : (s.setHold .none).idx ≠ 0 := hi
  have ho' : overflowDiscards (s.setHold .none) = false := ho
  have hframe := And.intro hi (overflowDiscards_eq_false_iff.1 ho)
  have hidle : ∀ h, ∃ u, dispatchBody (s.setHold .none) = .done () u ∧ WindowDispatched s u := fun h =>
    ⟨_, dispatchBody_of_switch (dispatchSwitch_ignored hi' ho' h), .inr (.inr (.inr (.inr (.inr ⟨hframe, h, rfl⟩))))⟩
  by_cases hD : s.buf[0] = 0x44#8
  · have hdump := dispatchSwitch_dump hi' ho' hD
    by_cases hq : (quiesceBody (s.setHold .none)).1 = .ok
    · obtain ⟨t, ht, hbody⟩ := dumpBody_sends hq hcs hc
      exact ⟨_, dispatchBody_of_switch (hdump.trans hbody), .inr (.inr (.inl ⟨hframe, hD, hq, t, ht, rfl⟩))⟩
    · exact ⟨_, dispatchBody_of_switch (hdump.trans (dumpBody_not_quiet hq)), .inr (.inl ⟨hframe, hD, hq, rfl⟩)⟩
  by_cases hdig : DigitsInBuffer s
  swap
  · exact hidle (.inr (.inr (.inl ⟨hD, hdig⟩)))
  by_cases hB : s.buf[0] = 0x42#8
  · cases hl : s.df.logging with
    | true => exact hidle (.inl ⟨hB, hl⟩)
    | false =>
      have hbegin := dispatchSwitch_begin hi' ho' hB
      rw [beginBody_digits (s := s.setHold .none) hdig hl] at hbegin
      exact ⟨_, dispatchBody_of_switch hbegin, .inr (.inr (.inr (.inl ⟨hframe, hB, hdig, hl, rfl⟩)))⟩
  by_cases hE : s.buf[0] = 0x45#8
  · cases hl : s.df.logging with
    | false => exact hidle (.inr (.inl ⟨hE, hl⟩))
    | true =>
      have hend := dispatchSwitch_end hi' ho' hE
      rw [endBody_digits (s := s.setHold .none) hdig hl] at hend
      exact ⟨_, dispatchBody_of_switch hend, .inr (.inr (.inr (.inr (.inl ⟨hframe, hE, hdig, hl, rfl⟩))))⟩
  · exact hidle (.inr (.inr (.inr ⟨hD, hB, hE⟩)))

/-- The dispatch of a closed window never faults while the cursor is in the store (R185, R186). -/
theorem dispatchBody_windowDispatched (hcs : s.cs = false) (hc : s.cursor.toNat < s.cfg.nvmWords) :
    ∃ u, dispatchBody (s.setHold .none) = .done () u ∧ WindowDispatched s u := by
  by_cases hi : s.idx = 0
  · exact ⟨_, dispatchBody_of_switch (dispatchSwitch_empty (s := s.setHold .none) hi),
      .inl ⟨fun ⟨hne, _⟩ => hne hi, rfl⟩⟩
  cases ho : overflowDiscards s with
  | true =>
    refine ⟨_, dispatchBody_of_switch (dispatchSwitch_overflowed (s := s.setHold .none) ho),
      .inl ⟨fun ⟨_, hno⟩ => ?_, rfl⟩⟩
    simp [overflowDiscards_eq_false_iff.2 hno] at ho
  | false => exact dispatchBody_windowDispatched_frame hi ho hcs hc

end

/-- Settles O32: the closed window is dispatched (`dispatchBody_windowDispatched`) and the rest is
`tickCycleGoesOn_of_exec`; an empty window leaves the state cleared, whose quiesce is known in each case. -/
theorem tickCycleCloses : Obligations.TickCycleCloses := by
  intro s hw
  refine ⟨fun hrx => ?_, fun hrx hcs hc => ?_, fun hrx => ⟨fun u hu => ?_, fun u hu => ?_⟩, fun hrx hi hno => ?_⟩
  · simp [exec, execScTickCycle, hw, hrx]
  · obtain ⟨u, hbody, hu⟩ := dispatchBody_windowDispatched hcs hc
    exact ⟨u, hu, tickCycleGoesOn_of_exec (hbody ▸ exec_scTickCycle_closed hw hrx)⟩
  · exact tickCycleGoesOn_of_exec ((exec_scTickCycle_closed hw hrx).trans (congrArg tickAfterDispatch hu))
  · exact (exec_scTickCycle_closed hw hrx).trans (congrArg tickAfterDispatch hu)
  · have hbody := dispatchBody_of_switch (dispatchSwitch_empty (s := s.setHold .none) hi)
    obtain ⟨hend, -⟩ := tickCycleGoesOn_of_exec (hbody ▸ exec_scTickCycle_closed hw hrx)
    obtain ⟨hquiet, hnot⟩ := hend hno
    refine ⟨fun o e hd ha ho => hquiet _ o e (quiesceBody_awake hd ha) ho,
      fun b1 e1 b2 e2 o e3 hd hb hlim h1 h2 hbit ho => ?_, fun hd hp => ?_, fun t hd hq => ?_⟩
    · have hst := readStatus_ok (s := (s.setHold .none).clearBuffer) h1 h2 rfl rfl
      have hq := quiesceBody_first_refresh (s := (s.setHold .none).clearBuffer) hd hb hlim
        (refreshBody_of_status_some ⟨hd, .inr hb⟩ hst) (if_neg hbit)
      exact hquiet _ o e3 hq ho
    · have h := hnot .notReady _ (quiesceBody_powered_down hp) (by simp)
      rw [if_neg (by simp [hd])] at h
      exact h
    · have h := hnot .busBusy t hq (by simp)
      rw [if_pos (show (s.setHold .none).clearBuffer.drvActive = true from hd)] at h
      exact h

/-! ### The host commands -/

section
variable {s t : State} {i : Instr} {body : State → Body Unit} (hi : exec i s = hostCommand body s)
  (hb : body (s.setHold .none) = .done () t)
include hi hb

/-- A host command at the close of PE_EXCHANGE's window: its effect, the buffer cleared after it (log 10). -/
theorem returns_hostCommand (hc : s.currentRequest = some .peExchange) : Returns i s (.code .ok) t.clearBuffer :=
  returns_of_complete (by simp [hi, hostCommand, hc, hb, clearAfter, completeBody])

/-- A host command at the close of SC_TICK_CYCLE's window: its effect, then the rest of the cycle (log 10). -/
theorem tickCycleGoesOn_hostCommand (hw : s.hold = .window) (hc : s.currentRequest = some .scTickCycle) :
    TickCycleGoesOn i s t.clearBuffer :=
  tickCycleGoesOn_of_exec (by simp [hi, hostCommand, hw, hc, hb, clearAfter])

end

/-- Settles O34: the transition with the hold released, under PE_EXCHANGE (`returns_hostCommand`). -/
theorem hostBeginAndEndResults : Obligations.HostBeginAndEndResults := by
  intro s ts f hc hlen
  have hB {t : State} (h : beginBody ts (s.setHold .none) = t) : Returns (.hostB ts f) s (.code .ok) t.clearBuffer :=
    returns_hostCommand (body := fun u => .done () (beginBody ts u)) rfl (congrArg (Body.done ()) h) hc
  have hE {t : State} (h : endBody ts (s.setHold .none) = t) : Returns (.hostE ts f) s (.code .ok) t.clearBuffer :=
    returns_hostCommand (body := fun u => .done () (endBody ts u)) rfl (congrArg (Body.done ()) h) hc
  refine ⟨fun hd hl => ?_, fun hd hl => ?_, fun h => ?_, fun h => ?_⟩
  · exact hB (beginBody_of_digits (s := s.setHold .none) hlen hd hl)
  · exact hE (endBody_of_digits (s := s.setHold .none) hlen hd hl)
  · exact hB (beginBody_of_not_due (s := s.setHold .none) hlen h)
  · exact hE (endBody_of_not_due (s := s.setHold .none) hlen h)

/-- Settles O54: the command with the hold released, then the rest of the cycle (`tickCycleGoesOn_hostCommand`). -/
theorem hostCommandsInATickCycle : Obligations.HostCommandsInATickCycle := by
  intro s ts rest f hw hc hlen
  have hB {t : State} (h : beginBody ts (s.setHold .none) = t) : TickCycleGoesOn (.hostB ts f) s t.clearBuffer :=
    tickCycleGoesOn_hostCommand (body := fun u => .done () (beginBody ts u)) rfl (congrArg (Body.done ()) h) hw hc
  have hE {t : State} (h : endBody ts (s.setHold .none) = t) : TickCycleGoesOn (.hostE ts f) s t.clearBuffer :=
    tickCycleGoesOn_hostCommand (body := fun u => .done () (endBody ts u)) rfl (congrArg (Body.done ()) h) hw hc
  have hD {t : State} (h : dumpBody (s.setHold .none) = .done () t) : TickCycleGoesOn (.hostD rest) s t.clearBuffer :=
    tickCycleGoesOn_hostCommand rfl h hw hc
  refine ⟨fun hd => ⟨fun hl => ?_, fun hl => ?_⟩, fun h => ?_, fun h => ?_, fun hq => ?_, fun hq hcs hcur => ?_⟩
  · exact hB (beginBody_of_digits (s := s.setHold .none) hlen hd hl)
  · exact hE (endBody_of_digits (s := s.setHold .none) hlen hd hl)
  · exact hB (beginBody_of_not_due (s := s.setHold .none) hlen h)
  · exact hE (endBody_of_not_due (s := s.setHold .none) hlen h)
  · exact hD (dumpBody_not_quiet hq)
  · obtain ⟨t, ht, hdump⟩ := dumpBody_sends (s := s.setHold .none) hq hcs hcur
    exact ⟨t, ht, hD hdump⟩

/-! ### The waits and reset -/

/-- Settles O33: each wait by its condition; the hold does not matter. -/
theorem waitResults : Obligations.WaitResults := by
  intro s
  refine ⟨fun _ ht => ?_, fun _ ht => ?_, fun _ hw => ?_, fun _ hw => ?_⟩
  · exact returns_of_complete (by simp [exec, execWaitTick, ht])
  · simp [exec, execWaitTick, ht, State.setHold]
  · simp [exec, execWaitSettle, hw, State.setHold]
  · exact returns_of_complete (by simp [exec, execWaitSettle, hw, State.setHold])

/-- FW_MAIN's request words are those of the table (42_session_controller.md R219; 30_encoding.md R103). -/
theorem fwMain_words :
    Program.fwMain.words = [0x0100000000#40, 0x0900000000#40, 0x6000000000#40, 0x4400000000#40] := by decide

/-- `DF` with no bit set is the byte 0 (30_encoding.md R115). -/
theorem toByte_no_flags : DeviceFlags.toByte ⟨false, false, false, false, false⟩ = 0x00 := by decide

/-- Settles O36: each register is written out in `State.resetWith`; FW_MAIN's words are `fwMain_words`. -/
theorem resetValues : Obligations.ResetValues := fun _ _ =>
  ⟨rfl, rfl, rfl, rfl, rfl, rfl, rfl, rfl, rfl, rfl, toByte_no_flags, rfl, rfl, rfl, rfl, rfl, rfl, rfl, rfl,
    rfl, fun _ => rfl, fwMain_words, rfl⟩

end Sys2Proof.Machine
end

section
/-! PROOFS. The family 60_exceptions.md. A held agent resumes its request (`step_resumes`), which stays as it is while
the hold's condition is not met (`State.Inv.exec_held`); a body inside another request is that request's body. -/

namespace Sys2Proof.Machine

open Sys2Proof.Claims

/-! ### The held agent -/

section
variable {s : State} {i : Instr}

/-- Where no window has closed the agent runs the request at `CP`, new or resumed (10_state.md R22, R41). -/
theorem nextAction_of_currentRequest (hc : s.currentRequest = some i) (hopen : s.hold = .window → s.rxEn = true) :
    s.nextAction = .run i := by
  obtain ⟨w, hw, hd⟩ := fetchWord_of_currentRequest hc
  have hnot : ¬ (s.hold = .window ∧ s.rxEn = false ∧ (i = .peExchange ∨ i = .scTickCycle)) :=
    fun ⟨hwin, hrx, _⟩ => by simp [hopen hwin] at hrx
  simp only [State.nextAction, hw, hd, if_neg hnot]

/-- The agent's turn begins or resumes the request at `CP`, unless a window has just closed. -/
theorem step_resumes {e : Env} (turn : s.env.drawTurn = (.agent, e)) (hf : s.faults = []) (hr : s.refused = false)
    (hc : s.currentRequest = some i) (hopen : s.hold = .window → s.rxEn = true) :
    step s = exec i { s with env := e } := by
  obtain ⟨w, hw, -⟩ := fetchWord_of_currentRequest hc
  have hstay : ({ s with env := e } : State).followGoto = { s with env := e } := followGoto_of_fetch hw
  have hact : ({ s with env := e } : State).nextAction = .run i := nextAction_of_currentRequest hc hopen
  rw [step_agent turn, agentTurn_live (s := { s with env := e }) hf hr, hstay, hact]

/-- SC.HOLD = SETTLE while the device wakes (40_store_driver.md R141; 42_session_controller.md R215, R218). -/
theorem exec_waiting_settle (hh : s.hold = .settle) (hp : s.pwr = .waking)
    (hi : i = .sdInit ∨ i = .scTickCycle ∨ i = .waitSettle) : exec i s = .next s := by
  rcases hi with rfl | rfl | rfl
  · simp only [exec, execSdInit, hh, hp, if_true]
  · simp only [exec, execScTickCycle, hh, hp, if_true]
  · simp only [exec, execWaitSettle, hp, if_true, State.setHold_self hh]

/-- SC.HOLD = WINDOW before TIMEOUT (41_protocol_engine.md R183; 42_session_controller.md R215). -/
theorem exec_waiting_window (hh : s.hold = .window) (hrx : s.rxEn = true)
    (hi : i = .peExchange ∨ i = .scTickCycle) : exec i s = .next s := by
  rcases hi with rfl | rfl
  · simp only [exec, execPeExchange, hh, hrx, if_true]
  · simp only [exec, execScTickCycle, hh, hrx, if_true, reduceCtorEq, if_false]

/-- SC.HOLD = TICK with no tick pending (42_session_controller.md R217). -/
theorem exec_waiting_tick (hh : s.hold = .tick) (ht : s.tickPend = false) : exec .waitTick s = .next s := by
  simp [exec, execWaitTick, ht, State.setHold_self hh]

/-- While a hold is not lifted the request it belongs to changes nothing when resumed (60_exceptions.md R243). -/
theorem State.Inv.exec_held (hs : s.Inv) (hn : s.hold ≠ .none) (hl : ¬ HoldLifted s) :
    ∃ i, s.currentRequest = some i ∧ exec i s = .next s := by
  have hfits := hs.hold_fits
  unfold HoldFits at hfits
  unfold HoldLifted at hl
  cases hh : s.hold with
  | none => exact absurd hh hn
  | settle =>
    simp only [hh, not_not] at hfits hl
    rcases hfits with hc | hc | hc
    all_goals exact ⟨_, hc, exec_waiting_settle hh hl (by simp)⟩
  | window =>
    simp only [hh, Bool.not_eq_false] at hfits hl
    rcases hfits with hc | hc
    all_goals exact ⟨_, hc, exec_waiting_window hh hl (by simp)⟩
  | tick =>
    simp only [hh, Bool.not_eq_true] at hfits hl
    exact ⟨_, hfits, exec_waiting_tick hh hl⟩

end

/-- Settles O11: the hold belongs to the request at `CP` (`HoldFits`), which the turn resumes (`step_resumes`) and which
waits on (`State.Inv.exec_held`). -/
theorem heldAgentWaits : Obligations.HeldAgentWaits := by
  intro s e hs turn hf hr hwait
  obtain ⟨hn, hl⟩ : s.hold ≠ .none ∧ ¬ HoldLifted s := by
    rcases hwait with ⟨hh, h⟩ | ⟨hh, h⟩ | ⟨hh, h⟩
    all_goals simp [HoldLifted, hh, h]
  have hopen : s.hold = .window → s.rxEn = true := fun hw => by simpa [HoldLifted, hw] using hl
  obtain ⟨i, hc, hexec⟩ := (hs.setEnv e).exec_held hn hl
  exact (step_resumes turn hf hr hc hopen).trans hexec

/-! ### Bodies and requests -/

section
variable {α : Type} {s t : State} {i : Instr} {f : α → Result} {b : Body α} (h : exec i s = completeBody f b)
include h

/-- A request whose body ends returns what the body gives (60_exceptions.md R250). -/
theorem returns_of_body_done {r : α} (hb : b = .done r t) : Returns i s (f r) t :=
  returns_of_complete (by rw [h, hb, completeBody])

/-- A request whose body raises a fault does not complete (60_exceptions.md R242). -/
theorem exec_of_body_faulted (hb : b = .faulted t) : exec i s = .next t := by
  rw [h, hb, completeBody]

end

/-- Settles O53: PE_DISPATCH and SC_SAMPLE complete their bodies (`returns_of_body_done`, `exec_of_body_faulted`), and
SC_QUIESCE's body always ends. -/
theorem bodiesAreTheRequests : Obligations.BodiesAreTheRequests := by
  intro s
  have hdispatch : exec .peDispatch s = completeBody (fun _ => .code .ok) (dispatchBody s) := rfl
  have hsample : exec .scSample s = completeBody (fun _ => .code .ok) (sampleBody s) := rfl
  refine ⟨fun t hb => ?_, fun t hb => ?_, fun t hb => ?_, fun t hb => ?_, fun r t hb => ?_⟩
  · exact returns_of_body_done hdispatch hb
  · exact exec_of_body_faulted hdispatch hb
  · exact returns_of_body_done hsample hb
  · exact exec_of_body_faulted hsample hb
  · exact returns_of_complete (by simp only [exec, execScQuiesce, hb])

end Sys2Proof.Machine
end

section
/-! PROOFS. The family of the encoding's round trip (30_encoding.md), format by format, and of what holds of every step
or of a whole unit: the step at `CP`, the traces, the store driver's register frame, reset. -/

namespace Sys2Proof.Machine

open Sys2Proof.Claims

/-! ### Decoding what the encoder writes -/

/-- The decoder reads from a request word the fields it was put together from (30_encoding.md R101). -/
theorem decode_reqWord (op : Byte) (a v : Word) : decode (.request (reqWord op a v)) = decodeFields op a v := by
  simp [decode, decodeRequest]

theorem decodeR_zero (i : Instr) : decodeR i 0 0 = .ok i := if_pos ⟨rfl, rfl⟩

theorem decodeRA_zero (f : Word → Instr) (a : Word) : decodeRA f a 0 = .ok (f a) := if_pos rfl

theorem decodeRV16_zero (f : Word → Instr) (v : Word) : decodeRV16 f 0 v = .ok (f v) := if_pos rfl

theorem decodeRV8_byteField (f : Byte → Instr) (b : Byte) : decodeRV8 f 0 (byteField b) = .ok (f b) := by
  simp [decodeRV8]

/-- The 15 bytes after a frame's opcode (30_encoding.md R105). -/
theorem decodeFrame_hostD {rest : List Byte} (h : (Instr.hostD rest).wf = true) :
    decodeFrame (0x44#8 :: rest) = .ok (.hostD rest) := by
  have hlen : rest.length = 15 := of_decide_eq_true h
  simp [decodeFrame, Config.bufferCapacity, hlen]

/-- A timestamp and the byte after it, read apart again (30_encoding.md R107, R108). -/
theorem timestamp_split {ts : List Byte} (h : ts.length = 14) (f : Byte) :
    (ts ++ [f]).take 14 = ts ∧ (ts ++ [f]).getD 14 0 = f := by
  rw [← h]
  simp

theorem decodeFrame_hostB {ts : List Byte} {f : Byte} (h : (Instr.hostB ts f).wf = true) :
    decodeFrame (0x42#8 :: (ts ++ [f])) = .ok (.hostB ts f) := by
  have hlen : ts.length = 14 := of_decide_eq_true h
  obtain ⟨hts, hf⟩ := timestamp_split hlen f
  simp only [decodeFrame, hts, hf]
  simp [Config.bufferCapacity, hlen]

theorem decodeFrame_hostE {ts : List Byte} {f : Byte} (h : (Instr.hostE ts f).wf = true) :
    decodeFrame (0x45#8 :: (ts ++ [f])) = .ok (.hostE ts f) := by
  have hlen : ts.length = 14 := of_decide_eq_true h
  obtain ⟨hts, hf⟩ := timestamp_split hlen f
  simp only [decodeFrame, hts, hf]
  simp [Config.bufferCapacity, hlen]

/-- Settles O1: a request's fields are read back (`decode_reqWord`) in its format, a host command's frame by its
first byte. -/
theorem decodeEncodeAgree : Obligations.DecodeEncodeAgree := by
  intro i hwf
  cases i
  case sdWrite a v => exact decode_reqWord 0x03 a v
  case sdRead a => exact (decode_reqWord 0x04 a 0).trans (decodeRA_zero _ a)
  case sdWrSr1 v => exact (decode_reqWord 0x08 0 (byteField v)).trans (decodeRV8_byteField _ v)
  case sdLog v => exact (decode_reqWord 0x0C 0 v).trans (decodeRV16_zero _ v)
  case peAppend c => exact (decode_reqWord 0x21 0 (byteField c)).trans (decodeRV8_byteField _ c)
  case hostD rest => exact decodeFrame_hostD hwf
  case hostB ts f => exact decodeFrame_hostB hwf
  case hostE ts f => exact decodeFrame_hostE hwf
  all_goals exact (decode_reqWord _ 0 0).trans (decodeR_zero _)

/-! ### Encoding what the decoder reads -/

/-- `i` is a well-formed instruction whose code is `c`. -/
def Spells (c : Code) (i : Instr) : Prop := encode i = c ∧ i.wf = true

/-- A format that accepts has found its condition true (`eq_of_ite_ok` is its second half). -/
theorem of_ite_ok {p : Prop} [Decidable p] {i j : Instr} {err : DecodeError}
    (h : (if p then Except.ok i else .error err) = .ok j) : p ∧ i = j := by
  refine ⟨?_, eq_of_ite_ok h⟩
  by_contra hp
  simp [hp] at h

section
variable {op : Byte} {a v : Word} {i : Instr}

/-! The formats of R103: a decoder that accepts has found its reserved fields 0. -/

theorem spells_of_decodeR {j : Instr} (hj : Spells (.request (reqWord op 0 0)) j) (h : decodeR j a v = .ok i) :
    Spells (.request (reqWord op a v)) i := by
  obtain ⟨⟨rfl, rfl⟩, rfl⟩ := of_ite_ok h
  exact hj

theorem spells_of_decodeRA {f : Word → Instr} (hf : Spells (.request (reqWord op a 0)) (f a))
    (h : decodeRA f a v = .ok i) : Spells (.request (reqWord op a v)) i := by
  obtain ⟨rfl, rfl⟩ := of_ite_ok h
  exact hf

theorem spells_of_decodeRV16 {f : Word → Instr} (hf : Spells (.request (reqWord op 0 v)) (f v))
    (h : decodeRV16 f a v = .ok i) : Spells (.request (reqWord op a v)) i := by
  obtain ⟨rfl, rfl⟩ := of_ite_ok h
  exact hf

theorem spells_of_decodeRV8 {f : Byte → Instr}
    (hf : Spells (.request (reqWord op 0 (byteField (lowByte v)))) (f (lowByte v))) (h : decodeRV8 f a v = .ok i) :
    Spells (.request (reqWord op a v)) i := by
  obtain ⟨⟨rfl, hhigh⟩, rfl⟩ := of_ite_ok h
  rwa [byteField_lowByte v hhigh] at hf

/-- The request of an OP is encoded with that OP, and with the operands its format reads. -/
theorem spells_of_decodeFields (h : decodeFields op a v = .ok i) : Spells (.request (reqWord op a v)) i := by
  unfold decodeFields at h
  split at h
  case h_3 => cases h; exact ⟨rfl, rfl⟩
  case h_4 => exact spells_of_decodeRA ⟨rfl, rfl⟩ h
  case h_8 | h_16 => exact spells_of_decodeRV8 ⟨rfl, rfl⟩ h
  case h_12 => exact spells_of_decodeRV16 ⟨rfl, rfl⟩ h
  case h_27 => cases h
  all_goals exact spells_of_decodeR ⟨rfl, rfl⟩ h

end

theorem spells_of_decodeRequest {w : ReqWord} {i : Instr} (h : decodeRequest w = .ok i) : Spells (.request w) i := by
  have hs := spells_of_decodeFields h
  rwa [reqWord_fields] at hs

/-- The 15 bytes after a `B` or an `E` are a timestamp and one byte (30_encoding.md R107, R108). -/
theorem timestamp_append {rest : List Byte} (h : rest.length = 15) : rest.take 14 ++ [rest.getD 14 0] = rest := by
  have hlt : 14 < rest.length := by omega
  calc rest.take 14 ++ [rest.getD 14 0]
      = rest.take 14 ++ [rest[14]] := by rw [List.getD_eq_getElem _ _ hlt]
    _ = rest.take 15 := List.take_append_getElem hlt
    _ = rest := List.take_of_length_le h.le

/-- A frame that decodes has 16 bytes, all of which its command holds. -/
theorem spells_of_decodeFrame {cells : List Byte} {i : Instr} (h : decodeFrame cells = .ok i) :
    Spells (.frame cells) i := by
  unfold decodeFrame at h
  split at h
  case isFalse => cases h
  case isTrue hlen =>
    cases cells with
    | nil => cases h
    | cons c rest =>
      have hrest : rest.length = 15 := Nat.succ.inj hlen
      have hts : (rest.take 14).length = 14 := by simp [hrest]
      have hsplit := timestamp_append hrest
      dsimp only at h
      split at h
      · next hD =>
        cases h
        exact ⟨by rw [hD]; rfl, decide_eq_true hrest⟩
      · split at h
        · next hB =>
          cases h
          exact ⟨by rw [encode, hsplit, hB], decide_eq_true hts⟩
        · split at h
          · next hE =>
            cases h
            exact ⟨by rw [encode, hsplit, hE], decide_eq_true hts⟩
          · cases h

/-- Settles O2: a request word by its fields (`spells_of_decodeRequest`), a frame by its bytes
(`spells_of_decodeFrame`). -/
theorem decodedCodeIsTheEncoding : Obligations.DecodedCodeIsTheEncoding := by
  intro c i h
  cases c with
  | request w => exact spells_of_decodeRequest h
  | frame cells => exact spells_of_decodeFrame h

/-- Settles O4: fixed words and frames, decoded. -/
theorem specWordsDecode : Obligations.SpecWordsDecode := by
  unfold Obligations.SpecWordsDecode
  decide

/-! ### The traces -/

/-- The three traces of 10_state.md R42 are extended at their ends, or left. -/
structure TracesGrow (s t : State) : Prop where
  bus : s.busTrace <+: t.busTrace
  tx : s.txTrace <+: t.txTrace
  res : s.resTrace <+: t.resTrace

theorem TracesGrow.refl (s : State) : TracesGrow s s := ⟨List.prefix_rfl, List.prefix_rfl, List.prefix_rfl⟩

theorem InstrEffect.tracesGrow {s t : State} (h : InstrEffect s t) : TracesGrow s t := { h with }

/-- No event writes to a trace. -/
theorem applyEvent_tracesGrow (ev : Event) (s : State) : TracesGrow s (applyEvent ev s) := by
  obtain ⟨_, _, _, _, _, _, _, heq, -, -⟩ := applyEvent_frame ev s
  rw [heq]
  exact { TracesGrow.refl s with }

/-- Settles O41: of the four kinds of step only an instruction writes to the traces (`exec_effect`). -/
theorem tracesOnlyGrow : Obligations.TracesOnlyGrow := by
  intro s s' h
  suffices hgrow : TracesGrow s s' from ⟨hgrow.bus, hgrow.tx, hgrow.res⟩
  rcases stepKind_of_step h with ⟨ev, e, -, rfl⟩ | ⟨i, e, -, -, -, ex⟩ | ⟨e, -, -, rfl⟩ | ⟨e, -, -, rfl⟩
  · exact { applyEvent_tracesGrow ev { s with env := e } with }
  · exact (exec_effect i _ _ ex).of_followGoto.tracesGrow
  · rw [followGoto_frame]
    exact { TracesGrow.refl s with }
  · exact { TracesGrow.refl s with }

/-! ### The register frame of the store driver -/

/-- The registers of the protocol engine and the session controller but the hold and `DF.MEM_ERROR`, which no request
of the store driver changes (10_state.md R33 to R40). -/
structure OtherUnitsKept (s t : State) : Prop where
  buf : t.buf = s.buf
  idx : t.idx = s.idx
  wovf : t.wovf = s.wovf
  rxEn : t.rxEn = s.rxEn
  sessionBase : t.sessionBase = s.sessionBase
  tickPend : t.tickPend = s.tickPend
  logging : t.df.logging = s.df.logging
  tempError : t.df.tempError = s.df.tempError
  cmdOverflow : t.df.cmdOverflow = s.df.cmdOverflow
  cmdError : t.df.cmdError = s.df.cmdError

/-- Of the registers above, of the hold, of `DF` and of what is sent, nothing changes: the store driver's own registers
and the bus are all that may. -/
structure DriverOnly (s t : State) : Prop extends OtherUnitsKept s t where
  hold : t.hold = s.hold
  df : t.df = s.df
  txTrace : t.txTrace = s.txTrace

theorem OtherUnitsKept.refl (s : State) : OtherUnitsKept s s := ⟨rfl, rfl, rfl, rfl, rfl, rfl, rfl, rfl, rfl, rfl⟩

theorem DriverOnly.refl (s : State) : DriverOnly s s := ⟨.refl s, rfl, rfl, rfl⟩

theorem DriverOnly.flagViolation (s : State) : DriverOnly s s.flagViolation := { DriverOnly.refl s with }

theorem DriverOnly.raise (s : State) (f : Fault) : DriverOnly s (s.raise f) := { DriverOnly.refl s with }

theorem DriverOnly.finish {s t : State} (h : DriverOnly s t) (r : Result) : DriverOnly s (t.finish r) := { h with }

/-- A transaction, which moves chip select, the bus trace, the log and the draws (20_memory.md R64). -/
theorem DriverOnly.txn {ρ : Type} {s t : State} (h : DriverOnly s t) (cmd : BusCmd)
    (answer : BusOutcome → Env → ρ × Env) (entry : ρ → Reply) : DriverOnly s (busTxn cmd answer entry t).state := by
  rw [busTxn_eq]
  exact { h with }

/-- A request leaves the other units' registers as its body does, whether it completes or faults. -/
theorem nexts_driverOnly {α : Type} {s : State} {f : α → Result} {b : Body α} (h : DriverOnly s b.state) :
    Nexts (completeBody f b) (DriverOnly s) := by
  cases b with
  | done r t => exact nexts_complete (h.finish _)
  | faulted t => exact nexts_next h

theorem readStatus_driverOnly (s : State) : DriverOnly s (readStatus s).2 := by
  have h1 : DriverOnly s (busRdsr1 s).state := (DriverOnly.refl s).txn .rdsr1 answerStatus .byte
  have h2 : DriverOnly s (busRdsr2 (busRdsr1 s).state).state := h1.txn .rdsr2 answerStatus .byte
  unfold readStatus
  dsimp only
  split
  · exact { h2 with }
  · exact { h2 with }

theorem refreshBody_driverOnly (s : State) : DriverOnly s (refreshBody s).2 := by
  have h := readStatus_driverOnly s
  unfold refreshBody
  split
  · split <;> next heq => rw [heq] at h; exact h
  · exact .flagViolation s

theorem readBody_driverOnly (a : Word) (s : State) : DriverOnly s (readBody a s).state := by
  unfold readBody
  split
  · split
    · exact .raise s _
    · split
      · exact .refl s
      · exact (DriverOnly.refl s).txn (.read a) (answerRead s.writeLog a) .word
  · exact .flagViolation s

theorem writeBody_driverOnly (a v : Word) (s : State) : DriverOnly s (writeBody a v s).state := by
  unfold writeBody
  split
  · split
    · exact .raise s _
    · split
      · exact .refl s
      · split
        · exact .refl s
        · exact { (DriverOnly.refl s).txn (.write a v) answerNothing noReply with }
  · exact .flagViolation s

theorem udpdEnterBody_driverOnly (s : State) : DriverOnly s (udpdEnterBody s).2 := by
  unfold udpdEnterBody
  split
  · split
    · exact .refl s
    · exact { (DriverOnly.refl s).txn .udpd answerNothing noReply with }
  · exact .flagViolation s

theorem udpdExitBody_driverOnly (s : State) : DriverOnly s (udpdExitBody s).2 := by
  unfold udpdExitBody
  split
  · split
    · exact { DriverOnly.refl s with }
    · exact .refl s
  · exact .flagViolation s

theorem readIdBody_driverOnly (s : State) : DriverOnly s (readIdBody s).2 := by
  unfold readIdBody
  split
  · split
    · exact .refl s
    · exact (DriverOnly.refl s).txn .readId (answerConstant s.cfg.deviceId s.cfg.idLen) .bytes
  · exact .flagViolation s

theorem advanceCursor_driverOnly {s t : State} (h : DriverOnly s t) : DriverOnly s (advanceCursor t).state := by
  unfold advanceCursor
  split <;> exact { h with }

theorem logBody_driverOnly (v : Word) (s : State) : DriverOnly s (logBody v s).state := by
  have h := readStatus_driverOnly s
  unfold logBody
  split
  · split
    · next heq => rw [heq] at h; exact h
    · next s1 heq =>
      rw [heq] at h
      split
      · exact h
      · have hw : DriverOnly s { (busWrite s1.cursor v s1).state with srValid := false, pwr := .busy } :=
          { h.txn (.write s1.cursor v) answerNothing noReply with }
        have hadv := advanceCursor_driverOnly hw
        dsimp only
        split <;> next heq => rw [heq] at hadv; exact hadv
  · exact .flagViolation s

theorem execSdTerm_driverOnly (s : State) : Nexts (execSdTerm s) (DriverOnly s) := by
  unfold execSdTerm
  split
  · exact nexts_complete ((DriverOnly.flagViolation s).finish _)
  · split
    · exact nexts_complete ((DriverOnly.refl s).finish _)
    · split
      · exact nexts_complete { (DriverOnly.refl s).txn .dpd answerNothing noReply with }
      · exact nexts_complete { DriverOnly.refl s with }

theorem execSdWrSr1_driverOnly (v : Byte) (s : State) : Nexts (execSdWrSr1 v s) (DriverOnly s) := by
  unfold execSdWrSr1
  split
  · split
    · exact nexts_complete ((DriverOnly.refl s).finish _)
    · exact nexts_complete { (DriverOnly.refl s).txn (.wrsr1 v) answerNothing noReply with }
  · exact nexts_complete ((DriverOnly.flagViolation s).finish _)

theorem execSdLoadOtp_driverOnly (s : State) : Nexts (execSdLoadOtp s) (DriverOnly s) := by
  have h : DriverOnly s (busOtpRead s).state :=
    (DriverOnly.refl s).txn .otpRead (answerConstant s.cfg.otpContent s.cfg.otpLen) .bytes
  unfold execSdLoadOtp
  split
  · split
    · exact nexts_complete ((DriverOnly.refl s).finish _)
    · dsimp only
      split <;> exact nexts_complete { h with }
  · exact nexts_complete ((DriverOnly.flagViolation s).finish _)

/-- What any request of the store driver keeps; SD_INIT alone may move the hold and `DF` (its bit MEM_ERROR), and
SD_PRINT_ID alone sends. -/
structure DriverFrame (i : Instr) (s t : State) : Prop extends OtherUnitsKept s t where
  control : i ≠ .sdInit → t.hold = s.hold ∧ t.df = s.df
  sent : i ≠ .sdPrintId → t.txTrace = s.txTrace

theorem DriverOnly.frame {s t : State} (h : DriverOnly s t) (i : Instr) : DriverFrame i s t :=
  { h with
    control := fun _ => ⟨h.hold, h.df⟩
    sent := fun _ => h.txTrace }

theorem Nexts.driverFrame {o : Host.Outcome State Fault Refusal} {s : State} (h : Nexts o (DriverOnly s)) (i : Instr) :
    Nexts o (DriverFrame i s) :=
  fun t ht => (h t ht).frame i

/-- SD_INIT's frame, in all its paths (40_store_driver.md R141). -/
theorem execSdInit_driverFrame (s : State) : Nexts (execSdInit s) (DriverFrame .sdInit s) := by
  have hkept : ∀ t, OtherUnitsKept s t → t.txTrace = s.txTrace → DriverFrame .sdInit s t :=
    fun t ht htx => { ht with control := fun h => absurd rfl h, sent := fun _ => htx }
  unfold execSdInit
  split
  · split
    · exact nexts_next ((DriverOnly.refl s).frame _)
    · unfold initIdentify
      dsimp only
      split <;> exact nexts_complete (hkept _ { OtherUnitsKept.refl s with } rfl)
  · split
    · exact nexts_complete (((DriverOnly.flagViolation s).finish _).frame _)
    · exact nexts_next (hkept _ { OtherUnitsKept.refl s with } rfl)

/-- SD_PRINT_ID's frame: beyond SD_READ_ID's it sends (40_store_driver.md R156). -/
theorem execSdPrintId_driverFrame (s : State) : Nexts (execSdPrintId s) (DriverFrame .sdPrintId s) := by
  have h := readIdBody_driverOnly s
  unfold execSdPrintId
  split <;> next heq =>
    rw [heq] at h
    exact nexts_complete { h with control := fun _ => ⟨h.hold, h.df⟩, sent := fun hne => absurd rfl hne }

/-- Every request of the store driver keeps its frame. -/
theorem exec_driverFrame {i : Instr} (s : State) (h : isSdRequest i = true) : Nexts (exec i s) (DriverFrame i s) := by
  cases i <;> simp only [isSdRequest, Bool.false_eq_true] at h <;> simp only [exec]
  case sdInit => exact execSdInit_driverFrame s
  case sdPrintId => exact execSdPrintId_driverFrame s
  all_goals refine Nexts.driverFrame ?_ _
  case sdTerm => exact execSdTerm_driverOnly s
  case sdWrite a v => exact nexts_driverOnly (writeBody_driverOnly a v s)
  case sdRead a => exact nexts_driverOnly (readBody_driverOnly a s)
  case sdRefresh => exact nexts_complete ((refreshBody_driverOnly s).finish _)
  case sdGetSr1 => exact nexts_complete ((DriverOnly.refl s).finish _)
  case sdGetSr2 => exact nexts_complete ((DriverOnly.refl s).finish _)
  case sdWrSr1 v => exact execSdWrSr1_driverOnly v s
  case sdUdpdEnter => exact nexts_complete ((udpdEnterBody_driverOnly s).finish _)
  case sdUdpdExitBegin => exact nexts_complete ((udpdExitBody_driverOnly s).finish _)
  case sdLoadOtp => exact execSdLoadOtp_driverOnly s
  case sdLog v => exact nexts_driverOnly (logBody_driverOnly v s)
  case sdReadId => exact nexts_complete ((readIdBody_driverOnly s).finish _)

/-- Settles O49, from the frame of each request (`exec_driverFrame`). -/
theorem driverRequestsFrame : Obligations.DriverRequestsFrame := by
  intro s t i hi hx
  have h := exec_driverFrame s hi t hx
  exact ⟨h.buf, h.idx, h.wovf, h.rxEn, h.sessionBase, h.tickPend, h.logging, h.tempError, h.cmdOverflow, h.cmdError,
    h.control, h.sent⟩

/-! ### The step at `CP` -/

/-- The command a window holds does not depend on `CP`. -/
theorem command_followGoto (s : State) : s.followGoto.command = s.command := by
  rw [followGoto_frame]
  rfl

/-- Where no closed window holds a host command the agent runs the request at `CP` (10_state.md R22; log 10). -/
theorem nextAction_of_fetch {s : State} {w : ReqWord} {i : Instr} (hw : s.fetchWord = some w)
    (hd : decodeRequest w = .ok i) (hopen : s.hold ≠ .window ∨ s.rxEn = true ∨ s.command = none) :
    s.nextAction = .run i := by
  simp only [State.nextAction, hw, hd]
  split
  · next hclosed =>
    obtain ⟨hh, hrx, -⟩ := hclosed
    have hnone : s.command = none := by simpa [hh, hrx] using hopen
    rw [hnone]
  · rfl

/-- Settles O5: the goto moves `CP` alone (`followGoto_frame`), and the request there runs (`nextAction_of_fetch`). -/
theorem stepRunsTheRequestAtCP : Obligations.StepRunsTheRequestAtCP := by
  intro s e w i turn hf hr hw hd hopen
  have hcmd : ({ s with env := e } : State).followGoto.command = s.command := command_followGoto _
  have hopen' : ({ s with env := e } : State).followGoto.hold ≠ .window ∨
      ({ s with env := e } : State).followGoto.rxEn = true ∨
      ({ s with env := e } : State).followGoto.command = none := by
    rw [hcmd, followGoto_frame]
    exact hopen
  rw [step_agent turn, agentTurn_live (s := { s with env := e }) hf hr, nextAction_of_fetch hw hd hopen']

/-- No event records or clears a fault. -/
theorem applyEvent_faults (ev : Event) (s : State) : (applyEvent ev s).faults = s.faults := by
  obtain ⟨_, _, _, _, _, _, _, heq, -, -⟩ := applyEvent_frame ev s
  rw [heq]

/-- Settles O9: the agent's turn answers the fault, an event's turn is the event (`step_event`). -/
theorem faultStopsTheAgentNotEvents : Obligations.FaultStopsTheAgentNotEvents := by
  intro s f fs e hf
  refine ⟨fun turn => ?_, fun ev turn => ⟨_, step_event turn, rfl, applyEvent_faults ev _⟩⟩
  rw [step_agent turn]
  simp only [agentTurn, hf]

/-! ### Reset -/

/-- `CURSOR_INIT` lies in the store (00_scope.md R6). -/
theorem cursorInit_lt_of_wf {p : Params} (h : p.wf = true) : p.cursorInit.toNat < p.nvmWords := by
  simp only [Params.wf, Bool.and_eq_true, decide_eq_true_eq] at h
  tauto

/-- Nothing is held, received or powered after reset (70_reset_and_hazards.md R281). -/
theorem atRest_resetWith (p : Params) (d : ResetDraws) : AtRest (.resetWith p d) := ⟨rfl, rfl, fun _ => rfl⟩

theorem inv_resetWith {p : Params} {d : ResetDraws} (hp : p.wf = true) (hd : d.otpBuf.length = p.otpLen) :
    (State.resetWith p d).Inv where
  cfg_wf := hp
  idx_le := Nat.zero_le 16
  rx_window := fun h => by cases h
  released_down := fun _ => .inl rfl
  settling := fun h => by cases h
  cs_low := rfl
  cursor_lt := cursorInit_lt_of_wf hp
  base_le := Nat.le_refl _
  wovf_full := fun h => by cases h
  cmd_error := rfl
  otp_len := hd
  log_wf := rfl
  one_fault := Nat.zero_le 1
  hold_fits := trivial

/-- Settles O37: the invariant register by register (`inv_resetWith`), R44 from it because reset is at rest. -/
theorem resetMeetsTheInvariant : Obligations.ResetMeetsTheInvariant := by
  intro p d hp hd
  have hinv := inv_resetWith hp hd
  exact ⟨hinv, hinv.r44 (atRest_resetWith p d).rested⟩

end Sys2Proof.Machine
end
